-- ==== Sys2Proof/Word.lean ====
section
/-! DEFINITION. The bit-vector types of the DHTC block and its plainest arithmetic (spec/00_scope.md rules R9, R14, R19). -/

namespace Sys2Proof

/-- One byte lane: a frame byte, or an 8-bit register (R9). -/
abbrev Byte := BitVec 8

/-- A 16-bit counter or bound: a pulse count, BUDGET.B, ACKLIM.L (R9, CW = 16). -/
abbrev Half := BitVec 16

/-- A bus data word, and the 32-bit millisecond counters (R9). -/
abbrev Word := BitVec 32

/-- A word offset: `paddr[7:2]`, the part of the byte offset that the block decodes (R101). -/
abbrev Slot := BitVec 6

/-- A host operation as one number: WE, ADDR and WDATA (R140). -/
abbrev AccessWord := BitVec 41

/-- A level of the sensor line: `false` is low (0), `true` is high (1) (R19). -/
abbrev Level := Bool

end Sys2Proof
end

