-- ==== Sys2Proof/Syntax.lean ====
section
/-! DEFINITION. The host operations: one constructor per row of spec/opcode_table.json (spec/30_encoding.md rule
R150). The block has no instruction set (R3); its instructions are these register accesses. Where the table gives
one operation several rows, each row has a constructor of its own, named by the lowest OP or byte offset it
matches. A constructor's operands are the operand fields the row's rule reads (R143); don't-care bits are none. -/

namespace Sys2Proof

inductive Instr where
  /-- RD_CTRL, R201. -/
  | rdCtrl
  /-- WR_CTRL, R202: WDATA[0] and WDATA[1]. -/
  | wrCtrl (literal doneIe : Bool)
  /-- RD_CMD, R203. -/
  | rdCmd
  /-- WR_CMD_NOP, R204. -/
  | wrCmdNop
  /-- WR_CMD_READ, R205 and R206. -/
  | wrCmdRead
  /-- WR_CMD_RSVD, R207: the row WDATA[3:0] = 001x. -/
  | wrCmdRsvd2 (op : BitVec 4)
  /-- WR_CMD_RSVD, R207: the row WDATA[3:0] = 01xx. -/
  | wrCmdRsvd4 (op : BitVec 4)
  /-- WR_CMD_RSVD, R207: the row WDATA[3:0] = 1xxx. -/
  | wrCmdRsvd8 (op : BitVec 4)
  /-- RD_STATUS, R208. -/
  | rdStatus
  /-- WR_STATUS, R209: WDATA[1], WDATA[4] and WDATA[5]. -/
  | wrStatus (clrDone clrOvr clrIll : Bool)
  /-- RD_RESULT, R210. -/
  | rdResult
  /-- WR_RESULT, R211. -/
  | wrResult
  /-- RD_DATA0, R212. -/
  | rdData0
  /-- WR_DATA0, R213. -/
  | wrData0
  /-- RD_DATA1, R214. -/
  | rdData1
  /-- WR_DATA1, R215. -/
  | wrData1
  /-- RD_BUDGET, R216. -/
  | rdBudget
  /-- WR_BUDGET, R217: WDATA[15:0], before legalisation. -/
  | wrBudget (b : Half)
  /-- RD_SDIV, R218. -/
  | rdSdiv
  /-- WR_SDIV, R219: WDATA[7:0]. -/
  | wrSdiv (v : Byte)
  /-- RD_MININT, R220. -/
  | rdMinint
  /-- WR_MININT, R221: WDATA[31:0]. -/
  | wrMinint (v : Word)
  /-- RD_STARTLOW, R222. -/
  | rdStartlow
  /-- WR_STARTLOW, R223: WDATA[7:0]. -/
  | wrStartlow (v : Byte)
  /-- RD_SETTLE, R224. -/
  | rdSettle
  /-- WR_SETTLE, R225: WDATA[7:0]. -/
  | wrSettle (v : Byte)
  /-- RD_ACKLIM, R226. -/
  | rdAcklim
  /-- WR_ACKLIM, R227: WDATA[15:0]. -/
  | wrAcklim (v : Half)
  /-- RD_RELDLY, R228. -/
  | rdReldly
  /-- WR_RELDLY, R229: WDATA[7:0]. -/
  | wrReldly (v : Byte)
  /-- RD_NOWMS, R230. -/
  | rdNowms
  /-- WR_NOWMS, R231. -/
  | wrNowms
  /-- RD_LASTTIME, R232. -/
  | rdLasttime
  /-- WR_LASTTIME, R233. -/
  | wrLasttime
  /-- RD_UNMAPPED, R234: the row of byte offset 0x3C. -/
  | rdUnmapped3C
  /-- RD_UNMAPPED, R234: the row ADDR[7:6] = 01; the operand is ADDR[7:2]. -/
  | rdUnmapped40 (slot : Slot)
  /-- RD_UNMAPPED, R234: the row ADDR[7] = 1; the operand is ADDR[7:2]. -/
  | rdUnmapped80 (slot : Slot)
  /-- WR_UNMAPPED, R235: the row of byte offset 0x3C. -/
  | wrUnmapped3C
  /-- WR_UNMAPPED, R235: the row ADDR[7:6] = 01; the operand is ADDR[7:2]. -/
  | wrUnmapped40 (slot : Slot)
  /-- WR_UNMAPPED, R235: the row ADDR[7] = 1; the operand is ADDR[7:2]. -/
  | wrUnmapped80 (slot : Slot)
deriving DecidableEq, Repr

end Sys2Proof
end

