-- ==== Sys2Proof/WellFormed.lean ====
section
/-! DEFINITION. Which terms of `Instr` are host operations: an operand that is partly fixed by its row of
spec/opcode_table.json must lie in that row (spec/30_encoding.md rules R142, R150). -/

namespace Sys2Proof

/-- WDATA[3:0] lies in the row 001x of WR_CMD_RSVD (R207). -/
def inRsvd2 (op : BitVec 4) : Bool := op &&& 0xE#4 == 0x2#4

/-- WDATA[3:0] lies in the row 01xx of WR_CMD_RSVD (R207). -/
def inRsvd4 (op : BitVec 4) : Bool := op &&& 0xC#4 == 0x4#4

/-- WDATA[3:0] lies in the row 1xxx of WR_CMD_RSVD (R207). -/
def inRsvd8 (op : BitVec 4) : Bool := op &&& 0x8#4 == 0x8#4

/-- ADDR[7:2] lies in the unmapped row ADDR[7:6] = 01 (R234). -/
def inUnmapped40 (slot : Slot) : Bool := slot &&& 0x30#6 == 0x10#6

/-- ADDR[7:2] lies in the unmapped row ADDR[7] = 1 (R234). -/
def inUnmapped80 (slot : Slot) : Bool := slot &&& 0x20#6 == 0x20#6

/-- Every operand lies in its row. The rows without a partly fixed operand admit every operand value. -/
def Instr.wf : Instr → Bool
  | .wrCmdRsvd2 op => inRsvd2 op
  | .wrCmdRsvd4 op => inRsvd4 op
  | .wrCmdRsvd8 op => inRsvd8 op
  | .rdUnmapped40 slot => inUnmapped40 slot
  | .rdUnmapped80 slot => inUnmapped80 slot
  | .wrUnmapped40 slot => inUnmapped40 slot
  | .wrUnmapped80 slot => inUnmapped80 slot
  | .rdCtrl | .wrCtrl _ _ | .rdCmd | .wrCmdNop | .wrCmdRead | .rdStatus | .wrStatus _ _ _
  | .rdResult | .wrResult | .rdData0 | .wrData0 | .rdData1 | .wrData1
  | .rdBudget | .wrBudget _ | .rdSdiv | .wrSdiv _ | .rdMinint | .wrMinint _
  | .rdStartlow | .wrStartlow _ | .rdSettle | .wrSettle _ | .rdAcklim | .wrAcklim _
  | .rdReldly | .wrReldly _ | .rdNowms | .wrNowms | .rdLasttime | .wrLasttime
  | .rdUnmapped3C | .wrUnmapped3C => true

end Sys2Proof
end

