-- ==== Sys2Proof/Decode.lean ====
section
/-! DEFINITION. The decoder and, after it, the encoder, both written from spec/30_encoding.md (rules R140-R143,
R150-R152), and spec/opcode_table.json as a list of rows to hold the two against. -/

namespace Sys2Proof

/-! ## The fields of an access word (R140) -/

/-- WE, bit 40: 1 is a write. -/
def weOf (w : AccessWord) : Bool := w.getLsbD 40

/-- ADDR, bits 39:32: the byte offset. -/
def addrOf (w : AccessWord) : Byte := w.extractLsb' 32 8

/-- ADDR[7:2], bits 39:34: the word offset. ADDR[1:0] is ignored (R106). -/
def slotOf (w : AccessWord) : Slot := w.extractLsb' 34 6

/-- WDATA, bits 31:0. -/
def wdataOf (w : AccessWord) : Word := w.extractLsb' 0 32

/-! ## Decoding (R142): total on access words -/

/-- A read (WE = 0) by word offset: the left column of R150. -/
def decodeRead (slot : Slot) : Instr :=
  match slot.toNat with
  | 0x00 => .rdCtrl
  | 0x01 => .rdCmd
  | 0x02 => .rdStatus
  | 0x03 => .rdResult
  | 0x04 => .rdData0
  | 0x05 => .rdData1
  | 0x06 => .rdBudget
  | 0x07 => .rdSdiv
  | 0x08 => .rdMinint
  | 0x09 => .rdStartlow
  | 0x0A => .rdSettle
  | 0x0B => .rdAcklim
  | 0x0C => .rdReldly
  | 0x0D => .rdNowms
  | 0x0E => .rdLasttime
  | 0x0F => .rdUnmapped3C
  | n => if n < 0x20 then .rdUnmapped40 slot else .rdUnmapped80 slot

/-- A write to CMD by CMD.OP = WDATA[3:0] (R151, R152). WDATA[31:4] is ignored. -/
def decodeCmd (op : BitVec 4) : Instr :=
  match op.toNat with
  | 0x0 => .wrCmdNop
  | 0x1 => .wrCmdRead
  | n => if n < 0x4 then .wrCmdRsvd2 op else if n < 0x8 then .wrCmdRsvd4 op else .wrCmdRsvd8 op

/-- A write (WE = 1) by word offset: the right column of R150, its operands cut from WDATA as R143 says. -/
def decodeWrite (slot : Slot) (d : Word) : Instr :=
  match slot.toNat with
  | 0x00 => .wrCtrl (d.getLsbD 0) (d.getLsbD 1)
  | 0x01 => decodeCmd (d.extractLsb' 0 4)
  | 0x02 => .wrStatus (d.getLsbD 1) (d.getLsbD 4) (d.getLsbD 5)
  | 0x03 => .wrResult
  | 0x04 => .wrData0
  | 0x05 => .wrData1
  | 0x06 => .wrBudget (d.extractLsb' 0 16)
  | 0x07 => .wrSdiv (d.extractLsb' 0 8)
  | 0x08 => .wrMinint d
  | 0x09 => .wrStartlow (d.extractLsb' 0 8)
  | 0x0A => .wrSettle (d.extractLsb' 0 8)
  | 0x0B => .wrAcklim (d.extractLsb' 0 16)
  | 0x0C => .wrReldly (d.extractLsb' 0 8)
  | 0x0D => .wrNowms
  | 0x0E => .wrLasttime
  | 0x0F => .wrUnmapped3C
  | n => if n < 0x20 then .wrUnmapped40 slot else .wrUnmapped80 slot

/-- The operation of an access word. Every 41-bit value has one (R142). -/
def decode (w : AccessWord) : Instr :=
  if weOf w then decodeWrite (slotOf w) (wdataOf w) else decodeRead (slotOf w)

/-- Why a number is no host operation. -/
inductive DecodeError where
  /-- It has a 1 above bit 40, so it is no 41-bit access word (R140, R141). Raised by `decodeNat` alone; no bus access
  can raise it, since the ports carry exactly 41 bits. Safe. -/
  | widerThanAccessWord
deriving DecidableEq, Repr

/-- Decoding a number: the operation of the access word it is, or why it is none. -/
def decodeNat (w : Nat) : Except DecodeError Instr :=
  if w < 2 ^ 41 then .ok (decode (BitVec.ofNat 41 w)) else .error .widerThanAccessWord

/-- Decoding a row of spec/opcode_table.json, numbered as the table numbers its bits. An operation has one fixed length
of 41 bits (R141), whatever number of whole bytes `nbits` holds it in. -/
def decodeTableWord (_nbits w : Nat) : Option Instr := (decodeNat w).toOption

/-! ## Encoding: the canonical access word of an operation -/

/-- An access word from its fields: WE, ADDR[7:2], ADDR[1:0] = 0, WDATA (R140). -/
def accessWord (we : Bool) (slot : Slot) (d : Word) : AccessWord := BitVec.ofBool we ++ slot ++ 0#2 ++ d

/-- A read in the canonical form: WDATA = 0 (R140). -/
def readWord (slot : Slot) : AccessWord := accessWord false slot 0#32

/-- A write. -/
def writeWord (slot : Slot) (d : Word) : AccessWord := accessWord true slot d

/-- WDATA of WR_CTRL: {DONE_IE, LITERAL} (R202). -/
def ctrlData (literal doneIe : Bool) : Word := 0#30 ++ BitVec.ofBool doneIe ++ BitVec.ofBool literal

/-- WDATA of WR_STATUS: ILL at [5], OVR at [4], DONE at [1] (R209). -/
def statusData (clrDone clrOvr clrIll : Bool) : Word :=
  0#26 ++ BitVec.ofBool clrIll ++ BitVec.ofBool clrOvr ++ 0#2 ++ BitVec.ofBool clrDone ++ 0#1

/-- The canonical access word of an operation: operands in their fields, every other don't-care bit 0 (R140, R150). -/
def encode : Instr → AccessWord
  | .rdCtrl => readWord 0x00#6
  | .wrCtrl literal doneIe => writeWord 0x00#6 (ctrlData literal doneIe)
  | .rdCmd => readWord 0x01#6
  | .wrCmdNop => writeWord 0x01#6 0x0#32
  | .wrCmdRead => writeWord 0x01#6 0x1#32
  | .wrCmdRsvd2 op => writeWord 0x01#6 (0#28 ++ op)
  | .wrCmdRsvd4 op => writeWord 0x01#6 (0#28 ++ op)
  | .wrCmdRsvd8 op => writeWord 0x01#6 (0#28 ++ op)
  | .rdStatus => readWord 0x02#6
  | .wrStatus clrDone clrOvr clrIll => writeWord 0x02#6 (statusData clrDone clrOvr clrIll)
  | .rdResult => readWord 0x03#6
  | .wrResult => writeWord 0x03#6 0#32
  | .rdData0 => readWord 0x04#6
  | .wrData0 => writeWord 0x04#6 0#32
  | .rdData1 => readWord 0x05#6
  | .wrData1 => writeWord 0x05#6 0#32
  | .rdBudget => readWord 0x06#6
  | .wrBudget b => writeWord 0x06#6 (0#16 ++ b)
  | .rdSdiv => readWord 0x07#6
  | .wrSdiv v => writeWord 0x07#6 (0#24 ++ v)
  | .rdMinint => readWord 0x08#6
  | .wrMinint v => writeWord 0x08#6 v
  | .rdStartlow => readWord 0x09#6
  | .wrStartlow v => writeWord 0x09#6 (0#24 ++ v)
  | .rdSettle => readWord 0x0A#6
  | .wrSettle v => writeWord 0x0A#6 (0#24 ++ v)
  | .rdAcklim => readWord 0x0B#6
  | .wrAcklim v => writeWord 0x0B#6 (0#16 ++ v)
  | .rdReldly => readWord 0x0C#6
  | .wrReldly v => writeWord 0x0C#6 (0#24 ++ v)
  | .rdNowms => readWord 0x0D#6
  | .wrNowms => writeWord 0x0D#6 0#32
  | .rdLasttime => readWord 0x0E#6
  | .wrLasttime => writeWord 0x0E#6 0#32
  | .rdUnmapped3C => readWord 0x0F#6
  | .rdUnmapped40 slot => readWord slot
  | .rdUnmapped80 slot => readWord slot
  | .wrUnmapped3C => writeWord 0x0F#6 0#32
  | .wrUnmapped40 slot => writeWord slot 0#32
  | .wrUnmapped80 slot => writeWord slot 0#32

/-! ## The opcode table -/

/-- A row of spec/opcode_table.json: a word w is in the row when `w AND mask = pattern`. -/
structure OpcodeRow where
  mnemonic : String
  pattern : AccessWord
  mask : AccessWord
deriving DecidableEq, Repr

/-- The word is in the row. -/
def inRow (r : OpcodeRow) (w : AccessWord) : Bool := w &&& r.mask == r.pattern

/-- spec/opcode_table.json, its 40 rows in its order. -/
def opcodeTable : List OpcodeRow :=
  [⟨"RD_CTRL", 0x00000000000#41, 0x1FC00000000#41⟩,
   ⟨"WR_CTRL", 0x10000000000#41, 0x1FC00000000#41⟩,
   ⟨"RD_CMD", 0x00400000000#41, 0x1FC00000000#41⟩,
   ⟨"WR_CMD_NOP", 0x10400000000#41, 0x1FC0000000F#41⟩,
   ⟨"WR_CMD_READ", 0x10400000001#41, 0x1FC0000000F#41⟩,
   ⟨"WR_CMD_RSVD", 0x10400000002#41, 0x1FC0000000E#41⟩,
   ⟨"WR_CMD_RSVD", 0x10400000004#41, 0x1FC0000000C#41⟩,
   ⟨"WR_CMD_RSVD", 0x10400000008#41, 0x1FC00000008#41⟩]
  ++ [⟨"RD_STATUS", 0x00800000000#41, 0x1FC00000000#41⟩,
   ⟨"WR_STATUS", 0x10800000000#41, 0x1FC00000000#41⟩,
   ⟨"RD_RESULT", 0x00C00000000#41, 0x1FC00000000#41⟩,
   ⟨"WR_RESULT", 0x10C00000000#41, 0x1FC00000000#41⟩,
   ⟨"RD_DATA0", 0x01000000000#41, 0x1FC00000000#41⟩,
   ⟨"WR_DATA0", 0x11000000000#41, 0x1FC00000000#41⟩,
   ⟨"RD_DATA1", 0x01400000000#41, 0x1FC00000000#41⟩,
   ⟨"WR_DATA1", 0x11400000000#41, 0x1FC00000000#41⟩]
  ++ [⟨"RD_BUDGET", 0x01800000000#41, 0x1FC00000000#41⟩,
   ⟨"WR_BUDGET", 0x11800000000#41, 0x1FC00000000#41⟩,
   ⟨"RD_SDIV", 0x01C00000000#41, 0x1FC00000000#41⟩,
   ⟨"WR_SDIV", 0x11C00000000#41, 0x1FC00000000#41⟩,
   ⟨"RD_MININT", 0x02000000000#41, 0x1FC00000000#41⟩,
   ⟨"WR_MININT", 0x12000000000#41, 0x1FC00000000#41⟩,
   ⟨"RD_STARTLOW", 0x02400000000#41, 0x1FC00000000#41⟩,
   ⟨"WR_STARTLOW", 0x12400000000#41, 0x1FC00000000#41⟩]
  ++ [⟨"RD_SETTLE", 0x02800000000#41, 0x1FC00000000#41⟩,
   ⟨"WR_SETTLE", 0x12800000000#41, 0x1FC00000000#41⟩,
   ⟨"RD_ACKLIM", 0x02C00000000#41, 0x1FC00000000#41⟩,
   ⟨"WR_ACKLIM", 0x12C00000000#41, 0x1FC00000000#41⟩,
   ⟨"RD_RELDLY", 0x03000000000#41, 0x1FC00000000#41⟩,
   ⟨"WR_RELDLY", 0x13000000000#41, 0x1FC00000000#41⟩,
   ⟨"RD_NOWMS", 0x03400000000#41, 0x1FC00000000#41⟩,
   ⟨"WR_NOWMS", 0x13400000000#41, 0x1FC00000000#41⟩,
   ⟨"RD_LASTTIME", 0x03800000000#41, 0x1FC00000000#41⟩,
   ⟨"WR_LASTTIME", 0x13800000000#41, 0x1FC00000000#41⟩]
  ++ [⟨"RD_UNMAPPED", 0x03C00000000#41, 0x1FC00000000#41⟩,
   ⟨"RD_UNMAPPED", 0x04000000000#41, 0x1C000000000#41⟩,
   ⟨"RD_UNMAPPED", 0x08000000000#41, 0x18000000000#41⟩,
   ⟨"WR_UNMAPPED", 0x13C00000000#41, 0x1FC00000000#41⟩,
   ⟨"WR_UNMAPPED", 0x14000000000#41, 0x1C000000000#41⟩,
   ⟨"WR_UNMAPPED", 0x18000000000#41, 0x18000000000#41⟩]

/-- The row of `opcodeTable` that an operation belongs to, counted from 0. -/
def rowIndex : Instr → Nat
  | .rdCtrl => 0
  | .wrCtrl _ _ => 1
  | .rdCmd => 2
  | .wrCmdNop => 3
  | .wrCmdRead => 4
  | .wrCmdRsvd2 _ => 5
  | .wrCmdRsvd4 _ => 6
  | .wrCmdRsvd8 _ => 7
  | .rdStatus => 8
  | .wrStatus _ _ _ => 9
  | .rdResult => 10
  | .wrResult => 11
  | .rdData0 => 12
  | .wrData0 => 13
  | .rdData1 => 14
  | .wrData1 => 15
  | .rdBudget => 16
  | .wrBudget _ => 17
  | .rdSdiv => 18
  | .wrSdiv _ => 19
  | .rdMinint => 20
  | .wrMinint _ => 21
  | .rdStartlow => 22
  | .wrStartlow _ => 23
  | .rdSettle => 24
  | .wrSettle _ => 25
  | .rdAcklim => 26
  | .wrAcklim _ => 27
  | .rdReldly => 28
  | .wrReldly _ => 29
  | .rdNowms => 30
  | .wrNowms => 31
  | .rdLasttime => 32
  | .wrLasttime => 33
  | .rdUnmapped3C => 34
  | .rdUnmapped40 _ => 35
  | .rdUnmapped80 _ => 36
  | .wrUnmapped3C => 37
  | .wrUnmapped40 _ => 38
  | .wrUnmapped80 _ => 39

end Sys2Proof
end

