-- ==== Sys2Proof/Config.lean ====
section
/-! DEFINITION. What the spec leaves to the implementation or to the environment: the four named parameters of
spec/00_scope.md rule R11, and the free values (environment draws, unspecified storage). None has a body, so no
proof can learn a value; a claim about the model is a claim about every value. -/

namespace Sys2Proof.Config

/-- `P_BASE`, the block's base address on the host bus (R11, R101; OPEN in spec/92_eei_decisions.md D2). -/
opaque pBase : Nat

/-- The integrator's choice behind `P_BUDGET_RESET`, before the range 2..65535 is imposed (R11, R565). -/
opaque budgetResetChoice : Half

/-- `P_BUDGET_RESET`: any value of 2..65535 and none other (R11, R38, R565). -/
def pBudgetReset : Half := if budgetResetChoice < 2#16 then 2#16 else budgetResetChoice

/-- `P_CRIT_MASKS_IRQ`: whether the platform masks the host's interrupts while `crit_o` = 1 (R11, R376). -/
opaque pCritMasksIrq : Bool

/-- `P_F_CLK`, the frequency of `clk` in Hz. Informative: no rule of the block reads it (R11). -/
opaque pFClk : Nat

/-- The `cnt` half of a sample stored as TIMEOUT, which R18 leaves unspecified: a fresh draw for each cycle number. -/
opaque timeoutCnt : Nat → Half

/-! The input ports in cycle n, for a cycle whose inputs the state does not schedule: free draws (R22, R353). -/

/-- `rst_n` in cycle n. -/
opaque drawRstN : Nat → Bool
/-- `psel` in cycle n. -/
opaque drawPsel : Nat → Bool
/-- `penable` in cycle n. -/
opaque drawPenable : Nat → Bool
/-- `pwrite` in cycle n. -/
opaque drawPwrite : Nat → Bool
/-- `paddr` in cycle n. -/
opaque drawPaddr : Nat → Byte
/-- `pwdata` in cycle n. Also what an interconnect presents in the lanes a narrow store does not drive (R590). -/
opaque drawPwdata : Nat → Word
/-- `pin_i` in cycle n. -/
opaque drawPinI : Nat → Level
/-- `tick_ms` in cycle n. -/
opaque drawTickMs : Nat → Bool

end Sys2Proof.Config
end

