-- ==== Sys2Proof/Machine/State.lean ====
section
/-! DEFINITION. The state of the machine: every register of spec/10_state.md, and, apart from them, what the model
adds to run one step at a time (the scheduled inputs, the cycle number, the word the last bus read returned).
The block has no memory (spec/20_memory.md rule R100), so there is no memory here. -/

namespace Sys2Proof.Machine

/-- The sequencer state register PHASE, the block's program counter (R32). The reserved codes 9-15 are never held
(R155), so they have no constructor. -/
inductive Phase where
  | idle | settle | start | release | ackWait | ackLow | ackHigh | capture | assemble
deriving DecidableEq, Repr

/-- RESULT.KIND (R44, R500). The codes 5-7 are never written (R155), so they have no constructor. -/
inductive Kind where
  | none | success | handshakeTimeout | pulseTimeout | checksumMismatch
deriving DecidableEq, Repr

/-- The fields of RESULT (R44). Its reserved bits read 0 and are no state (R35). -/
structure ResultReg where
  kind : Kind
  bits : BitVec 6
  half : Bool
  hsph : BitVec 2
deriving DecidableEq, Repr

/-- One entry of the sample buffer, 17 bits `{to, cnt[15:0]}` (R18, R50). -/
structure Sample where
  timedOut : Bool
  cnt : Half
deriving DecidableEq, Repr

/-- The input ports of the block in one `clk` cycle (R30). -/
structure Input where
  rstN : Bool
  psel : Bool
  penable : Bool
  pwrite : Bool
  paddr : Byte
  pwdata : Word
  pinI : Level
  tickMs : Bool
deriving DecidableEq, Repr

structure State where
  /-- PHASE (R32). -/
  phase : Phase
  /-- CAPTURE pulse index 0..79 (R51, R370). -/
  j : BitVec 7
  /-- ASSEMBLE bit index 0..39 (R51, R405). -/
  i : BitVec 6
  /-- CTRL.LITERAL (R36). -/
  literal : Bool
  /-- CTRL.DONE_IE (R36). -/
  doneIe : Bool
  /-- BUDGET.B (R38). -/
  budget : Half
  /-- SDIV (R39). -/
  sdiv : Byte
  /-- MININT (R40). -/
  minint : Word
  /-- STARTLOW (R41). -/
  startlow : Byte
  /-- SETTLE (R42). -/
  settle : Byte
  /-- ACKLIM (R43). -/
  acklim : Half
  /-- RELDLY (R55). -/
  reldly : Byte
  /-- STATUS.DONE (R45). -/
  done : Bool
  /-- STATUS.CACHED (R45). -/
  cached : Bool
  /-- STATUS.OVR (R45, R505). -/
  ovr : Bool
  /-- STATUS.ILL (R45, R506). -/
  ill : Bool
  /-- The timing-critical window, STATUS.CRIT and `crit_o` (R51, R375). -/
  critQ : Bool
  /-- The cache holds a result, STATUS.VALID (R51, R451). -/
  haveResult : Bool
  /-- RESULT (R44). -/
  result : ResultReg
  /-- The frame buffer FB[0..4] (R49). -/
  fb : Vector Byte 5
  /-- LASTTIME (R48, R458). -/
  lasttime : Word
  /-- The millisecond counter NOWMS (R48, R450). -/
  nowms : Word
  /-- NOWMS sampled at acceptance (R51, R456). -/
  tstart : Word
  /-- The sample buffer SAMP[0..79] (R50). -/
  samp : Vector Sample 80
  /-- The sample-tick prescaler (R51, R350). -/
  presc : Byte
  /-- First stage of the pad synchronizer (R51, R352). -/
  sync1 : Level
  /-- Second stage of the pad synchronizer: `pin_s` (R51, R352). -/
  sync2 : Level
  /-- ms ticks counted in SETTLE or START (R51, R312). -/
  wcnt : BitVec 9
  /-- RELEASE cycle counter (R51, R320). -/
  rel : Bool
  /-- ACK_WAIT discarded-tick counter (R51, R322). -/
  sk : Byte
  /-- ACK_WAIT high-sample counter (R51, R326). -/
  aw : Half
  /-- Current pulse count (R51, R360). -/
  c : Half
  /-- MODEL'S OWN: the word `prdata` carried in the cycle just run, if that cycle was a read access (R103). -/
  rdata : Option Word
  /-- MODEL'S OWN: the input ports of the coming cycles, next cycle first. A cycle beyond the list draws its inputs
  from Config (R22). -/
  inputs : List Input
  /-- MODEL'S OWN: the number of cycles run; the index of every draw. -/
  cycle : Nat
deriving DecidableEq, Repr

/-- Why a step stops with a fault. The block has no fault outcomes (R25, R500: it raises no exception and no bus
error), so there is no reason: no step faults. Safe, and nothing is left out. -/
inductive Fault where
deriving DecidableEq, Repr

/-- Why an instruction has no meaning. The block refuses no access (R25), and every row has its meaning. -/
inductive Refusal where
  /-- An arm of `exec` whose instruction is not modelled yet would raise it. No arm does. Safe. -/
  | notModelled (mnemonic : String)
deriving DecidableEq, Repr

/-- How one step ends. -/
abbrev Out := Host.Outcome State Fault Refusal

/-- RESULT after reset: KIND = NONE, every field 0 (R44, R560). -/
def ResultReg.reset : ResultReg := ⟨.none, 0#6, false, 0#2⟩

/-- The state after a reset edge: the table of R560. SAMP's power-up value is unspecified there; the model's choice of
zero (notes/assumptions/3.md) is never observable (R562). The three last fields are the model's own. -/
def State.reset : State where
  phase := .idle
  j := 0#7
  i := 0#6
  literal := false
  doneIe := false
  budget := Config.pBudgetReset
  sdiv := 0#8
  minint := 2000#32
  startlow := 20#8
  settle := 0#8
  acklim := 0#16
  reldly := 0#8
  done := false
  cached := false
  ovr := false
  ill := false
  critQ := false
  haveResult := false
  result := .reset
  fb := Vector.replicate 5 0#8
  lasttime := 0#32
  nowms := 0#32
  tstart := 0#32
  samp := Vector.replicate 80 ⟨false, 0#16⟩
  presc := 0#8
  sync1 := true
  sync2 := true
  wcnt := 0#9
  rel := false
  sk := 0#8
  aw := 0#16
  c := 0#16
  rdata := none
  inputs := []
  cycle := 0

end Sys2Proof.Machine
end

