-- ==== Sys2Proof/Machine/Operands.lean ====
section
/-! DEFINITION. The operand forms of the host operations: the register words a read returns, assembled from their fields
(spec/10_state.md rules R34-R48, spec/30_encoding.md rule R144), and the one transformation of a written value
(R143). -/

namespace Sys2Proof.Machine

/-- The code of a phase in STATUS[11:8] (R32). -/
def phaseCode : Phase → BitVec 4
  | .idle => 0 | .settle => 1 | .start => 2 | .release => 3 | .ackWait => 4
  | .ackLow => 5 | .ackHigh => 6 | .capture => 7 | .assemble => 8

/-- The code of an outcome in RESULT[2:0] (R44, R500). -/
def kindCode : Kind → BitVec 3
  | .none => 0 | .success => 1 | .handshakeTimeout => 2 | .pulseTimeout => 3 | .checksumMismatch => 4

/-- What WR_BUDGET stores: values below 2 are stored as 2 (R38, R143). -/
def legaliseBudget (b : Half) : Half := if b < 2#16 then 2#16 else b

/-- The four-byte sum of a frame mod 256, formed in 10 bits (R47, R412). -/
def checksum (fb : Vector Byte 5) : Byte :=
  (fb[0].setWidth 10 + fb[1].setWidth 10 + fb[2].setWidth 10 + fb[3].setWidth 10).setWidth 8

/-- `ok(F)`: the checksum byte is the sum of the other four (R412). Also DATA1.CSOK (R47). -/
def frameOk (fb : Vector Byte 5) : Bool := checksum fb == fb[4]

/-- RD_CTRL (R201). -/
def ctrlWord (s : State) : Word := 0#30 ++ BitVec.ofBool s.doneIe ++ BitVec.ofBool s.literal

/-- RESULT as a word (R44, R420). -/
def resultWord (r : ResultReg) : Word :=
  0#10 ++ r.hsph ++ 0#3 ++ BitVec.ofBool r.half ++ 0#2 ++ r.bits ++ 0#5 ++ kindCode r.kind

/-- DATA0: frame byte k in lane k (R46, R109). -/
def data0Word (fb : Vector Byte 5) : Word := fb[3] ++ fb[2] ++ fb[1] ++ fb[0]

/-- DATA1: FB[4], CSUM and CSOK (R47). -/
def data1Word (fb : Vector Byte 5) : Word := 0#15 ++ BitVec.ofBool (frameOk fb) ++ checksum fb ++ fb[4]

end Sys2Proof.Machine
end

