-- ==== Sys2Proof/Machine/Flags.lean ====
section
/-! DEFINITION. The flags: STATUS, its only condition codes (spec/10_state.md rule R45), what sets them and what clears
them on the host's side (spec/60_exceptions.md rules R505-R508). DONE and CACHED are also written by acceptance,
cached return and completion (Ops.lean). -/

namespace Sys2Proof.Machine

/-- BUSY = (PHASE != IDLE) (R33). -/
def busy (s : State) : Bool := !(s.phase == .idle)

/-- RD_STATUS (R208). -/
def statusWord (s : State) : Word :=
  0#20 ++ phaseCode s.phase ++ 0#1 ++ BitVec.ofBool s.haveResult ++ BitVec.ofBool s.ill ++ BitVec.ofBool s.ovr
    ++ BitVec.ofBool s.critQ ++ BitVec.ofBool s.cached ++ BitVec.ofBool s.done ++ BitVec.ofBool (busy s)

/-- `ovr <- 1` (R505). -/
def setOvr (s : State) : State := { s with ovr := true }

/-- `ill <- 1` (R506). -/
def setIll (s : State) : State := { s with ill := true }

/-- Write one to clear: each flag written with 1 is cleared, a 0 leaves it (R35, R209). -/
def clearFlags (clrDone clrOvr clrIll : Bool) (s : State) : State :=
  { s with done := s.done && !clrDone, ovr := s.ovr && !clrOvr, ill := s.ill && !clrIll }

end Sys2Proof.Machine
end

