-- ==== Sys2Proof/Machine/Ops.lean ====
section
/-! DEFINITION. The operations that the meanings and the units share. The block's counterpart of taking an exception is
`complete`, the completion edge (spec/60_exceptions.md rule R515), and of returning from one `acknowledge`, the host
clearing DONE (R517). A function with two states `s` and `h` reads the pre-edge state `s` and writes its `<-` on `h`,
the state the same edge is building (spec/00_scope.md rule R15). -/

namespace Sys2Proof.Machine

/-- A read access: `prdata` carries the register's word, and no register changes (R103). -/
def respond (v : Word) (s : State) : Out := .next { s with rdata := some v }

/-- A write to a configuration register: stored while IDLE, otherwise dropped with `ovr <- 1` (R240). -/
def lockedWrite (stored : State) (s : State) : Out := .next (if s.phase = .idle then stored else setOvr s)

/-- An access with no effect at all: WR_CMD_NOP and the writes R154 lists. -/
def ignoreAccess (s : State) : Out := .next s

/-! ## The READ command -/

/-- `elapsed = (NOWMS - LASTTIME) mod 2^32` (R453). -/
def elapsed (s : State) : Word := s.nowms - s.lasttime

/-- RATE-LIMIT TEST (R453). -/
def limited (s : State) : Bool := s.haveResult && decide (elapsed s < s.minint)

/-- The phase a transaction starts in (R300). -/
def firstPhase (s : State) : Phase :=
  if s.settle ≠ 0#8 then .settle else if s.startlow ≠ 0#8 then .start else .release

/-- The frame buffer zeroed, the source's step 2 (R300). -/
def zeroFrame : Vector Byte 5 := Vector.replicate 5 0#8

/-- ACCEPT: a transaction begins (R300, R456). -/
def accept (s : State) : State :=
  { s with
    tstart := s.nowms
    fb := zeroFrame
    done := false
    cached := false
    wcnt := 0#9
    rel := false
    sk := 0#8
    aw := 0#16
    c := 0#16
    j := 0#7
    i := 0#6
    phase := firstPhase s }

/-- CACHED RETURN: the READ is answered from the cache (R455). -/
def cachedReturn (s : State) : State := { s with done := true, cached := true }

/-- WR_CMD_READ (R205, R206): a cached return, an acceptance, or dropped with OVR. -/
def readCommand (s : State) : State :=
  if s.phase = .idle then (if limited s then cachedReturn s else accept s) else setOvr s

/-! ## Completion and its acknowledgement -/

/-- `complete(KIND, BITS, HALF, HSPH)`: the end of a transaction and the cache update (R420, R457, R515). -/
def complete (kind : Kind) (bits : BitVec 6) (half : Bool) (hsph : BitVec 2) (s h : State) : State :=
  { h with
    result := ⟨kind, bits, half, hsph⟩
    lasttime := s.tstart
    haveResult := true
    done := true
    critQ := false
    phase := .idle }

/-- The return from a completion: the host writes 1 to STATUS.DONE, and nothing else needs restoring (R517). -/
def acknowledge (s : State) : State := clearFlags true false false s

end Sys2Proof.Machine
end

