-- ==== Sys2Proof/Machine/Bus.lean ====
section
/-! DEFINITION. The input ports (spec/10_state.md rule R30): the inputs of the next cycle, and the bus access they make
(spec/20_memory.md rules R102-R106). -/

namespace Sys2Proof.Machine

/-- The inputs of cycle n when nothing schedules them: one free draw for each port (R22). -/
def drawnInput (n : Nat) : Input where
  rstN := Config.drawRstN n
  psel := Config.drawPsel n
  penable := Config.drawPenable n
  pwrite := Config.drawPwrite n
  paddr := Config.drawPaddr n
  pwdata := Config.drawPwdata n
  pinI := Config.drawPinI n
  tickMs := Config.drawTickMs n

/-- The inputs of the coming cycle. -/
def nextInput (s : State) : Input := s.inputs.headD (drawnInput s.cycle)

/-- The state of the coming cycle, its inputs taken: no read has answered yet. -/
def beginCycle (s : State) : State := { s with rdata := none, inputs := s.inputs.tail, cycle := s.cycle + 1 }

/-- The access word on the bus in an access cycle: WE = `pwrite`, ADDR = `paddr`, WDATA = `pwdata` (R140). -/
def busWord (inp : Input) : AccessWord := BitVec.ofBool inp.pwrite ++ inp.paddr ++ inp.pwdata

/-- The access of a cycle: one if `psel` and `penable` are both 1, else none (R102, R104). -/
def accessOf (inp : Input) : Option AccessWord := if inp.psel && inp.penable then some (busWord inp) else none

/-- The inputs of a cycle in which the host makes the access `w`, out of reset, with no ms tick and the line high. -/
def accessInput (w : AccessWord) : Input where
  rstN := true
  psel := true
  penable := true
  pwrite := weOf w
  paddr := addrOf w
  pwdata := wdataOf w
  pinI := true
  tickMs := false

/-- The inputs of a cycle without an access, out of reset. -/
def idleInput (pinI : Level) (tickMs : Bool) : Input where
  rstN := true
  psel := false
  penable := false
  pwrite := false
  paddr := 0#8
  pwdata := 0#32
  pinI := pinI
  tickMs := tickMs

end Sys2Proof.Machine
end

