-- ==== Sys2Proof/Machine/Configuration.lean ====
section
/-! DEFINITION. The host operations on the configuration registers (spec/40_host_operations.md rules R216-R229, R240). -/

namespace Sys2Proof.Machine

/-- RD_BUDGET (R216). -/
def execRdBudget (s : State) : Out := respond (s.budget.setWidth 32) s

/-- WR_BUDGET (R217): the written value is legalised. -/
def execWrBudget (b : Half) (s : State) : Out := lockedWrite { s with budget := legaliseBudget b } s

/-- RD_SDIV (R218). -/
def execRdSdiv (s : State) : Out := respond (s.sdiv.setWidth 32) s

/-- WR_SDIV (R219): the prescaler is not reset by the write. -/
def execWrSdiv (v : Byte) (s : State) : Out := lockedWrite { s with sdiv := v } s

/-- RD_MININT (R220). -/
def execRdMinint (s : State) : Out := respond s.minint s

/-- WR_MININT (R221). -/
def execWrMinint (v : Word) (s : State) : Out := lockedWrite { s with minint := v } s

/-- RD_STARTLOW (R222). -/
def execRdStartlow (s : State) : Out := respond (s.startlow.setWidth 32) s

/-- WR_STARTLOW (R223). -/
def execWrStartlow (v : Byte) (s : State) : Out := lockedWrite { s with startlow := v } s

/-- RD_SETTLE (R224). -/
def execRdSettle (s : State) : Out := respond (s.settle.setWidth 32) s

/-- WR_SETTLE (R225). -/
def execWrSettle (v : Byte) (s : State) : Out := lockedWrite { s with settle := v } s

/-- RD_ACKLIM (R226). -/
def execRdAcklim (s : State) : Out := respond (s.acklim.setWidth 32) s

/-- WR_ACKLIM (R227). -/
def execWrAcklim (v : Half) (s : State) : Out := lockedWrite { s with acklim := v } s

/-- RD_RELDLY (R228). -/
def execRdReldly (s : State) : Out := respond (s.reldly.setWidth 32) s

/-- WR_RELDLY (R229). -/
def execWrReldly (v : Byte) (s : State) : Out := lockedWrite { s with reldly := v } s

end Sys2Proof.Machine
end

