-- ==== Sys2Proof/Machine/Control.lean ====
section
/-! DEFINITION. The host operations on CTRL and CMD (spec/40_host_operations.md rules R201-R207). -/

namespace Sys2Proof.Machine

/-- RD_CTRL (R201). -/
def execRdCtrl (s : State) : Out := respond (ctrlWord s) s

/-- WR_CTRL (R202): DONE_IE is always written; LITERAL is locked while BUSY, with OVR if the written bit differs. -/
def execWrCtrl (literal doneIe : Bool) (s : State) : Out :=
  let t := { s with doneIe := doneIe }
  .next (if s.phase = .idle then { t with literal := literal }
    else if literal = s.literal then t else setOvr t)

/-- RD_CMD (R203): CMD has no storage and reads 0. -/
def execRdCmd (s : State) : Out := respond 0#32 s

/-- WR_CMD_NOP (R204). -/
def execWrCmdNop (s : State) : Out := ignoreAccess s

/-- WR_CMD_READ (R205, R206). -/
def execWrCmdRead (s : State) : Out := .next (readCommand s)

/-- WR_CMD_RSVD, OP = 001x (R207). The value of a reserved OP has no influence. -/
def execWrCmdRsvd2 (_op : BitVec 4) (s : State) : Out := .next (setIll s)

/-- WR_CMD_RSVD, OP = 01xx (R207). -/
def execWrCmdRsvd4 (_op : BitVec 4) (s : State) : Out := .next (setIll s)

/-- WR_CMD_RSVD, OP = 1xxx (R207). -/
def execWrCmdRsvd8 (_op : BitVec 4) (s : State) : Out := .next (setIll s)

end Sys2Proof.Machine
end

