-- ==== Sys2Proof/Machine/Result.lean ====
section
/-! DEFINITION. The host operations on STATUS, RESULT and the frame (spec/40_host_operations.md rules R208-R215). -/

namespace Sys2Proof.Machine

/-- RD_STATUS (R208). -/
def execRdStatus (s : State) : Out := respond (statusWord s) s

/-- WR_STATUS (R209). That a completion at the same edge wins over the clear is the edge's (R530, Edge.lean). -/
def execWrStatus (clrDone clrOvr clrIll : Bool) (s : State) : Out := .next (clearFlags clrDone clrOvr clrIll s)

/-- RD_RESULT (R210). -/
def execRdResult (s : State) : Out := respond (resultWord s.result) s

/-- WR_RESULT (R211). -/
def execWrResult (s : State) : Out := ignoreAccess s

/-- RD_DATA0 (R212), which includes the source's getHumidity (R425). -/
def execRdData0 (s : State) : Out := respond (data0Word s.fb) s

/-- WR_DATA0 (R213). -/
def execWrData0 (s : State) : Out := ignoreAccess s

/-- RD_DATA1 (R214). -/
def execRdData1 (s : State) : Out := respond (data1Word s.fb) s

/-- WR_DATA1 (R215). -/
def execWrData1 (s : State) : Out := ignoreAccess s

end Sys2Proof.Machine
end

