-- ==== Sys2Proof/Machine/Time.lean ====
section
/-! DEFINITION. The host operations on the time registers and the unmapped offsets (spec/40_host_operations.md rules
R230-R235). -/

namespace Sys2Proof.Machine

/-- RD_NOWMS (R230): the pre-edge count. -/
def execRdNowms (s : State) : Out := respond s.nowms s

/-- WR_NOWMS (R231). -/
def execWrNowms (s : State) : Out := ignoreAccess s

/-- RD_LASTTIME (R232). -/
def execRdLasttime (s : State) : Out := respond s.lasttime s

/-- WR_LASTTIME (R233). -/
def execWrLasttime (s : State) : Out := ignoreAccess s

/-- RD_UNMAPPED at offset 0x3C (R234). -/
def execRdUnmapped3C (s : State) : Out := respond 0#32 s

/-- RD_UNMAPPED at offsets 0x40-0x7C (R234). -/
def execRdUnmapped40 (_slot : Slot) (s : State) : Out := respond 0#32 s

/-- RD_UNMAPPED at offsets 0x80-0xFC (R234). -/
def execRdUnmapped80 (_slot : Slot) (s : State) : Out := respond 0#32 s

/-- WR_UNMAPPED at offset 0x3C (R235). -/
def execWrUnmapped3C (s : State) : Out := ignoreAccess s

/-- WR_UNMAPPED at offsets 0x40-0x7C (R235). -/
def execWrUnmapped40 (_slot : Slot) (s : State) : Out := ignoreAccess s

/-- WR_UNMAPPED at offsets 0x80-0xFC (R235). -/
def execWrUnmapped80 (_slot : Slot) (s : State) : Out := ignoreAccess s

end Sys2Proof.Machine
end

