-- ==== Sys2Proof/Machine/Dispatch.lean ====
section
/-! DEFINITION. `exec`: one arm per host operation, each a direct call of its meaning. It gives what the access itself
does at the edge ending its cycle, read from the pre-edge state; what the block does at the same edge is Edge.lean. -/

namespace Sys2Proof.Machine

def exec (i : Instr) (s : State) : Host.Outcome State Fault Refusal :=
  match i with
  | .rdCtrl => Sys2Proof.Machine.execRdCtrl s
  | .wrCtrl literal doneIe => Sys2Proof.Machine.execWrCtrl literal doneIe s
  | .rdCmd => Sys2Proof.Machine.execRdCmd s
  | .wrCmdNop => Sys2Proof.Machine.execWrCmdNop s
  | .wrCmdRead => Sys2Proof.Machine.execWrCmdRead s
  | .wrCmdRsvd2 op => Sys2Proof.Machine.execWrCmdRsvd2 op s
  | .wrCmdRsvd4 op => Sys2Proof.Machine.execWrCmdRsvd4 op s
  | .wrCmdRsvd8 op => Sys2Proof.Machine.execWrCmdRsvd8 op s
  | .rdStatus => Sys2Proof.Machine.execRdStatus s
  | .wrStatus clrDone clrOvr clrIll => Sys2Proof.Machine.execWrStatus clrDone clrOvr clrIll s
  | .rdResult => Sys2Proof.Machine.execRdResult s
  | .wrResult => Sys2Proof.Machine.execWrResult s
  | .rdData0 => Sys2Proof.Machine.execRdData0 s
  | .wrData0 => Sys2Proof.Machine.execWrData0 s
  | .rdData1 => Sys2Proof.Machine.execRdData1 s
  | .wrData1 => Sys2Proof.Machine.execWrData1 s
  | .rdBudget => Sys2Proof.Machine.execRdBudget s
  | .wrBudget b => Sys2Proof.Machine.execWrBudget b s
  | .rdSdiv => Sys2Proof.Machine.execRdSdiv s
  | .wrSdiv v => Sys2Proof.Machine.execWrSdiv v s
  | .rdMinint => Sys2Proof.Machine.execRdMinint s
  | .wrMinint v => Sys2Proof.Machine.execWrMinint v s
  | .rdStartlow => Sys2Proof.Machine.execRdStartlow s
  | .wrStartlow v => Sys2Proof.Machine.execWrStartlow v s
  | .rdSettle => Sys2Proof.Machine.execRdSettle s
  | .wrSettle v => Sys2Proof.Machine.execWrSettle v s
  | .rdAcklim => Sys2Proof.Machine.execRdAcklim s
  | .wrAcklim v => Sys2Proof.Machine.execWrAcklim v s
  | .rdReldly => Sys2Proof.Machine.execRdReldly s
  | .wrReldly v => Sys2Proof.Machine.execWrReldly v s
  | .rdNowms => Sys2Proof.Machine.execRdNowms s
  | .wrNowms => Sys2Proof.Machine.execWrNowms s
  | .rdLasttime => Sys2Proof.Machine.execRdLasttime s
  | .wrLasttime => Sys2Proof.Machine.execWrLasttime s
  | .rdUnmapped3C => Sys2Proof.Machine.execRdUnmapped3C s
  | .rdUnmapped40 slot => Sys2Proof.Machine.execRdUnmapped40 slot s
  | .rdUnmapped80 slot => Sys2Proof.Machine.execRdUnmapped80 slot s
  | .wrUnmapped3C => Sys2Proof.Machine.execWrUnmapped3C s
  | .wrUnmapped40 slot => Sys2Proof.Machine.execWrUnmapped40 slot s
  | .wrUnmapped80 slot => Sys2Proof.Machine.execWrUnmapped80 slot s

end Sys2Proof.Machine
end

