-- ==== Sys2Proof/Machine/Sampler.lean ====
section
/-! DEFINITION. The pulse-duration sampler (spec/42_sampler.md): sample ticks, the synchronized line, the measurement
step, and the three phases that measure. A function of `s` and `h` reads the pre-edge state `s` and writes on `h`. -/

namespace Sys2Proof.Machine

/-! ## Free-running state -/

/-- `tick_s`: this cycle is a sample tick (R350). -/
def tickS (s : State) : Bool := decide (s.sdiv ≤ s.presc)

/-- `pin_s`: the level every rule reads (R352). -/
def pinS (s : State) : Level := s.sync2

/-- What runs in every cycle, in every phase: the prescaler (R350), the synchronizer (R352), NOWMS (R450). -/
def freeRun (inp : Input) (s h : State) : State :=
  { h with
    presc := if tickS s then 0#8 else s.presc + 1#8
    sync1 := inp.pinI
    sync2 := s.sync1
    nowms := if inp.tickMs then s.nowms + 1#32 else s.nowms }

/-! ## MEASURE, the source's expectPulse -/

/-- The result of measuring a pulse: `COUNT(n)` or `TIMEOUT` (R18). -/
inductive PulseResult where
  | count (n : Half)
  | timeout
deriving DecidableEq, Repr

/-- MEASURE(v) at one sample tick with line level `pin`, budget `b` and count `c`: the result, if the tick resolves the
pulse, and the next count (R360). -/
def measureTick (v pin : Level) (b c : Half) : Option PulseResult × Half :=
  if pin = v then
    if c + 1#16 = b then (some .timeout, 0#16) else (none, c + 1#16)
  else (some (.count c), 1#16)

/-- How a result is stored (R18). The `cnt` of a TIMEOUT is unspecified: `free`. -/
def sampleOf (free : Half) : PulseResult → Sample
  | .count n => ⟨false, n⟩
  | .timeout => ⟨true, free⟩

/-! ## The measuring phases -/

/-- ACK_LOW (R365). -/
def ackLowStep (s h : State) : State :=
  if tickS s then
    let m := measureTick false (pinS s) s.budget s.c
    let h := { h with c := m.2 }
    match m.1 with
    | none => h
    | some .timeout => complete .handshakeTimeout 0#6 false 2#2 s h
    | some (.count _) => { h with phase := .ackHigh }
  else h

/-- ACK_HIGH (R366). -/
def ackHighStep (s h : State) : State :=
  if tickS s then
    let m := measureTick true (pinS s) s.budget s.c
    let h := { h with c := m.2 }
    match m.1 with
    | none => h
    | some .timeout => complete .handshakeTimeout 0#6 false 3#2 s h
    | some (.count _) => { h with phase := .capture, j := 0#7 }
  else h

/-- The level expected of CAPTURE pulse j: `j mod 2` (R360, R370). -/
def captureLevel (s : State) : Level := s.j.getLsbD 0

/-- CAPTURE, pulse j (R370, R371): every result is stored; pulse 79 ends the critical window and the capture. -/
def captureStep (s h : State) : State :=
  if tickS s then
    let m := measureTick (captureLevel s) (pinS s) s.budget s.c
    let h := { h with c := m.2 }
    match m.1 with
    | none => h
    | some r =>
      let h := { h with samp := s.samp.setIfInBounds s.j.toNat (sampleOf (Config.timeoutCnt s.cycle) r) }
      if s.j = 79#7 then { h with critQ := false, phase := .assemble, i := 0#6 }
      else { h with j := s.j + 1#7 }
  else h

end Sys2Proof.Machine
end

