-- ==== Sys2Proof/Machine/Assembler.lean ====
section
/-! DEFINITION. The bit classifier, frame assembler and checksum validator (spec/43_assembler.md). A function of `s` and
`h` reads the pre-edge state `s` and writes on `h`. -/

namespace Sys2Proof.Machine

/-- SAMP[k]. `k` is below 80 in every legal state (`Legal`); past the end, which no rule of the spec reaches, it is an
empty entry (notes/assumptions/8.md). -/
def sampleAt (samp : Vector Sample 80) (k : Nat) : Sample := (samp[k]?).getD ⟨false, 0#16⟩

/-- CLASSIFY: 1 if the high count exceeds the low count, else 0; a tie gives 0 (R407). -/
def classify (lo hi : Half) : Bool := decide (lo < hi)

/-- One lane shifts left by one and takes `b` in: `{FB[k][6:0], b}` (R410). -/
def shiftIn (lane : Byte) (b : Bool) : Byte := lane.extractLsb' 0 7 ++ BitVec.ofBool b

/-- FOLD: bit `b` goes into lane `k`; the other lanes are unchanged (R410). -/
def foldBit (fb : Vector Byte 5) (k : Nat) (b : Bool) : Vector Byte 5 :=
  fb.setIfInBounds k (shiftIn ((fb[k]?).getD 0#8) b)

/-- ASSEMBLE, one bit per cycle (R400): timeout test (R406), classify (R407), fold (R410), check (R413, R414). -/
def assembleStep (s h : State) : State :=
  let lo := sampleAt s.samp (2 * s.i.toNat)
  let hi := sampleAt s.samp (2 * s.i.toNat + 1)
  if lo.timedOut || hi.timedOut then complete .pulseTimeout s.i (!lo.timedOut) 0#2 s h
  else
    let fb := foldBit s.fb (s.i.extractLsb' 3 3).toNat (classify lo.cnt hi.cnt)
    let h := { h with fb := fb }
    if s.literal && frameOk fb then complete .success (s.i + 1#6) false 0#2 s h
    else if s.i = 39#6 then
      complete (if frameOk fb then .success else .checksumMismatch) 40#6 false 0#2 s h
    else { h with i := s.i + 1#6 }

end Sys2Proof.Machine
end

