-- ==== Sys2Proof/Machine/Sequencer.lean ====
section
/-! DEFINITION. The handshake sequencer (spec/41_sequencer.md): the millisecond waits, the release, and the wait for the
sensor's acknowledgement. A function of `s` and `h` reads the pre-edge state `s` and writes on `h`. -/

namespace Sys2Proof.Machine

/-- The (n+1)-th ms tick of a wait of n ms (R304): `wcnt + 1 = n + 1` in 9 bits (R312). -/
def waitOver (n : Byte) (s : State) : Bool := s.wcnt + 1#9 == n.setWidth 9 + 1#9

/-- SETTLE_PH (R305). -/
def settleStep (inp : Input) (s h : State) : State :=
  if inp.tickMs then
    if waitOver s.settle s then
      { h with
        wcnt := 0#9
        phase := if s.startlow ≠ 0#8 then .start else .release
        rel := false }
    else { h with wcnt := s.wcnt + 1#9 }
  else h

/-- START (R310). -/
def startStep (inp : Input) (s h : State) : State :=
  if inp.tickMs then
    if waitOver s.startlow s then { h with wcnt := 0#9, phase := .release, rel := false }
    else { h with wcnt := s.wcnt + 1#9 }
  else h

/-- RELEASE (R320): exactly two cycles. -/
def releaseStep (s h : State) : State :=
  if s.rel then { h with phase := .ackWait, sk := 0#8, aw := 0#16 } else { h with rel := true }

/-- ACK_WAIT: discarded ticks (R322), the acknowledgement edge (R323), no tick (R324), the unbounded wait (R325) and
the bounded one (R326). -/
def ackWaitStep (s h : State) : State :=
  if tickS s then
    if s.sk < s.reldly then { h with sk := s.sk + 1#8 }
    else if s.sk ≠ s.reldly then h
    else if pinS s = false then { h with critQ := true, phase := .ackLow, c := 1#16 }
    else if s.acklim = 0#16 then h
    else if s.aw + 1#16 = s.acklim then complete .handshakeTimeout 0#6 false 1#2 s h
    else { h with aw := s.aw + 1#16 }
  else h

end Sys2Proof.Machine
end

