-- ==== Sys2Proof/Machine/Edge.lean ====
section
/-! DEFINITION. What the block does at one rising edge of `clk` (spec/00_scope.md rule R15), beside the host's access:
`s` is the pre-edge state, which every right-hand side reads, and `h` is `s` with the access's own writes. The block's
writes go on top of `h`, so a completion wins over a W1C of DONE (spec/60_exceptions.md rule R530). -/

namespace Sys2Proof.Machine

/-- The unit that PHASE selects takes its step (R330). In IDLE none does. -/
def unitStep (inp : Input) (s h : State) : State :=
  match s.phase with
  | .idle => h
  | .settle => settleStep inp s h
  | .start => startStep inp s h
  | .release => releaseStep s h
  | .ackWait => ackWaitStep s h
  | .ackLow => ackLowStep s h
  | .ackHigh => ackHighStep s h
  | .capture => captureStep s h
  | .assemble => assembleStep s h

/-- A normal edge (`rst_n` = 1). -/
def clockEdge (inp : Input) (s h : State) : State := unitStep inp s (freeRun inp s h)

/-- A reset edge (`rst_n` = 0): every register takes the value of R560, whatever else happens (R512). SAMP keeps its
old value (R560, R562). The word a read returned in this cycle was `prdata` of the pre-edge state (R53, R103). -/
def resetEdge (s h : State) : State :=
  { State.reset with samp := s.samp, rdata := h.rdata, inputs := s.inputs, cycle := s.cycle }

/-- The edge that ends a cycle. -/
def edge (inp : Input) (s h : State) : State := if inp.rstN then clockEdge inp s h else resetEdge s h

end Sys2Proof.Machine
end

