-- ==== Sys2Proof/Machine/Step.lean ====
section
/-! DEFINITION. One step: one cycle of `clk`, with at most one host access (spec/00_scope.md rules R15, R22). -/

namespace Sys2Proof.Machine

/-- Take the cycle's inputs; if they make an access, run the decoded operation on the pre-edge state; then the edge. -/
def step (s : State) : Host.Outcome State Fault Refusal :=
  let inp := nextInput s
  let pre := beginCycle s
  match accessOf inp with
  | none => .next (edge inp pre pre)
  | some w =>
    match exec (decode w) pre with
    | .next h => .next (edge inp pre h)
    | .fault r => .fault r
    | .refused r => .refused r

/-- The state `s` with one more scheduled cycle in front: the host's access with the access word `w`. The block fetches
nothing (R117); its host supplies the operations (notes/assumptions/9.md). -/
def State.withFetchWord (s : State) (_nbits w : Nat) : State :=
  { s with inputs := accessInput (BitVec.ofNat 41 w) :: s.inputs }

end Sys2Proof.Machine
end

