-- ==== Sys2Proof/Machine/Outputs.lean ====
section
/-! DEFINITION. The output ports (spec/10_state.md rules R30, R53): functions of the state alone, but for `prdata`, which
also reads `paddr`. -/

namespace Sys2Proof.Machine

/-- `pin_oe`: the pad is driven, in START only (R53, R302). -/
def pinOe (s : State) : Bool := s.phase == .start

/-- `pin_o`: the value driven; tied to 0 (R53). -/
def pinO (_s : State) : Level := false

/-- `pin_pu`: the pad's pull-up, on whenever the pad is not driven (R53, R302). -/
def pinPu (s : State) : Bool := !pinOe s

/-- `irq_o`: the completion interrupt, a level (R53, R520). -/
def irqO (s : State) : Bool := s.done && s.doneIe

/-- `crit_o`: the timing-critical window (R53, R375). -/
def critO (s : State) : Bool := s.critQ

/-- `pready`: every access completes in its cycle (R53, R102). -/
def pready (_s : State) : Bool := true

/-- `pslverr`: no access is an error (R53, R102). -/
def pslverr (_s : State) : Bool := false

/-- `prdata` for a byte offset: the register at `paddr[7:2]`; unmapped offsets read 0 (R34, R103, R106, R160). -/
def prdata (s : State) (paddr : Byte) : Word :=
  match (paddr.extractLsb' 2 6).toNat with
  | 0x00 => ctrlWord s
  | 0x02 => statusWord s
  | 0x03 => resultWord s.result
  | 0x04 => data0Word s.fb
  | 0x05 => data1Word s.fb
  | 0x06 => s.budget.setWidth 32
  | 0x07 => s.sdiv.setWidth 32
  | 0x08 => s.minint
  | 0x09 => s.startlow.setWidth 32
  | 0x0A => s.settle.setWidth 32
  | 0x0B => s.acklim.setWidth 32
  | 0x0C => s.reldly.setWidth 32
  | 0x0D => s.nowms
  | 0x0E => s.lasttime
  | _ => 0#32

/-! The platform's side of two outputs. -/

/-- The host's interrupts are held off by the critical window, if the platform does that (R376, R522). -/
def hostIrqMasked (s : State) : Bool := critO s && Config.pCritMasksIrq

/-- The completion interrupt as the host sees it: the level of `irq_o`, unless the platform holds it off (R520, R522). -/
def irqSeen (s : State) : Bool := irqO s && !hostIrqMasked s

/-- The level the block puts on the open-drain line: driven low, or left to the pull-up and the sensor (R302). -/
def drivesLow (s : State) : Bool := pinOe s && !pinO s

end Sys2Proof.Machine
end

