-- ==== Sys2Proof/Machine/HostProgram.lean ====
section
/-! DEFINITION. The host's side of the register interface: the operation syntax and the pseudo-instructions
(spec/30_encoding.md rules R161, R162), the boot order (spec/70_reset_and_hazards.md rule R570), the host's addresses
and lanes (spec/20_memory.md rules R101, R107, R109, R590). The step never calls it: it makes the inputs a host program
would make. -/

namespace Sys2Proof.Machine

/-! ## Operation syntax (R161) -/

/-- The fifteen register names (R34). -/
inductive RegName where
  | ctrl | cmd | status | result | data0 | data1 | budget | sdiv | minint | startlow | settle | acklim | reldly
  | nowms | lasttime
deriving DecidableEq, Repr

/-- The byte offset of a register (R34). -/
def regOffset : RegName → Byte
  | .ctrl => 0x00 | .cmd => 0x04 | .status => 0x08 | .result => 0x0C | .data0 => 0x10 | .data1 => 0x14
  | .budget => 0x18 | .sdiv => 0x1C | .minint => 0x20 | .startlow => 0x24 | .settle => 0x28 | .acklim => 0x2C
  | .reldly => 0x30 | .nowms => 0x34 | .lasttime => 0x38

/-- `RD @0xNN`: a read of a byte offset, in the canonical form (R140, R161). -/
def rdAt (off : Byte) : AccessWord := 0#1 ++ off ++ 0#32

/-- `WR @0xNN, v` (R140, R161). -/
def wrAt (off : Byte) (v : Word) : AccessWord := 1#1 ++ off ++ v

/-- `RD <REG>` (R161). -/
def rd (r : RegName) : AccessWord := rdAt (regOffset r)

/-- `WR <REG>, v` (R161). -/
def wr (r : RegName) (v : Word) : AccessWord := wrAt (regOffset r) v

/-- A host operation of a program: one access, a cycle without one, `POLL`: the read repeated until the field under
`mask` reads `value` (R161), or the wait for `irq_o`, in cycles without an access (R26). -/
inductive HostOp where
  | access (w : AccessWord)
  | idle
  | poll (w : AccessWord) (mask value : Word)
  | awaitIrq
deriving DecidableEq, Repr

/-- The access an operation makes in its cycle. -/
def hostAccess : HostOp → Option AccessWord
  | .access w => some w
  | .idle => none
  | .poll w _ _ => some w
  | .awaitIrq => none

/-- The operation is finished with the cycle just run, given what its read returned and whether the host saw the
interrupt in that cycle. -/
def hostDone (rdata : Option Word) (irq : Bool) : HostOp → Bool
  | .access _ => true
  | .idle => true
  | .poll _ mask value => match rdata with
    | none => false
    | some v => v &&& mask == value
  | .awaitIrq => irq

/-- `POLL STATUS.DONE == 1` (R161). -/
def pollDone : HostOp := .poll (rd .status) 0x2#32 0x2#32

/-! ## Pseudo-instructions (R162) -/

inductive Pseudo where
  | readSensor | getHumidity | getTemperature | clrDone | clrFlags | nop
deriving DecidableEq, Repr

/-- The expansion of a pseudo-instruction (R162). -/
def expand : Pseudo → List HostOp
  | .readSensor =>
    [.access (wr .cmd 0x1#32), pollDone, .access (rd .result), .access (rd .data0), .access (rd .data1)]
  | .getHumidity => [.access (rd .data0)]
  | .getTemperature => [.access (rd .data0)]
  | .clrDone => [.access (wr .status 0x2#32)]
  | .clrFlags => [.access (wr .status 0x32#32)]
  | .nop => [.access (wr .cmd 0x0#32)]

/-- One reading by interrupt, R26's other way to learn of the completion: DONE_IE set with CTRL's other bit as given, the
READ, the wait for `irq_o`, what READ_SENSOR reads, and the acknowledgement (R517, R520). -/
def readByInterrupt (literal : Bool) : List HostOp :=
  [.access (wr .ctrl (ctrlData literal true)), .access (wr .cmd 0x1#32), .awaitIrq, .access (rd .result),
    .access (rd .data0), .access (rd .data1)] ++ expand .clrDone

/-- getHumidity's (integer_part, fractional_part), from DATA0 (R162, R425). -/
def humidityOf (data0 : Word) : Byte × Byte := (data0.extractLsb' 0 8, data0.extractLsb' 8 8)

/-- GET_TEMPERATURE's two bytes, from DATA0 (R162). -/
def temperatureOf (data0 : Word) : Byte × Byte := (data0.extractLsb' 16 8, data0.extractLsb' 24 8)

/-- The boot order of R570, steps 2-6: the configuration writes, one READ to its end, DONE cleared. -/
def bootProgram (configuration : List (RegName × Word)) : List HostOp :=
  configuration.map (fun p => .access (wr p.1 p.2)) ++ expand .readSensor ++ expand .clrDone

/-! ## The host beside the block -/

/-- What the environment gives in one cycle (R22). -/
structure EnvInput where
  rstN : Bool
  pinI : Level
  tickMs : Bool
deriving DecidableEq, Repr

/-- The block's inputs in a cycle in which the host is at operation `op`. -/
def hostInput (env : EnvInput) (op : Option HostOp) : Input :=
  match op.bind hostAccess with
  | some w => { accessInput w with rstN := env.rstN, pinI := env.pinI, tickMs := env.tickMs }
  | none => { idleInput env.pinI env.tickMs with rstN := env.rstN }

/-- What is left of the host's program after a cycle. -/
def hostAdvance (rdata : Option Word) (irq : Bool) : List HostOp → List HostOp
  | [] => []
  | op :: ops => if hostDone rdata irq op then ops else op :: ops

/-- One cycle of the host's program and the block together. `irq_o` is the level of that cycle, a function of the
pre-edge state (R53). -/
def hostCycle (env : EnvInput) (ops : List HostOp) (s : State) :
    Host.Outcome (List HostOp × State) Fault Refusal :=
  match step { s with inputs := hostInput env ops.head? :: s.inputs } with
  | .next t => .next (hostAdvance t.rdata (irqSeen s) ops, t)
  | .fault r => .fault r
  | .refused r => .refused r

/-! ## Addresses and lanes -/

/-- The host's address of a byte offset (R101). -/
def hostAddress (off : Byte) : Nat := Config.pBase + off.toNat

/-- The byte offset a host address reaches, if it lies in the block's 256 bytes (R101). -/
def offsetOf (addr : Nat) : Option Byte :=
  if Config.pBase ≤ addr ∧ addr < Config.pBase + 256 then some (BitVec.ofNat 8 (addr - Config.pBase)) else none

/-- Lane k of a word: what a narrow read picks from `prdata` (R107, R109). -/
def laneOf (w : Word) (k : BitVec 2) : Byte := w.extractLsb' (8 * k.toNat) 8

/-- The `pwdata` of a narrow store: the lanes it drives, and a draw in the others (R105, R590). -/
def narrowPwdata (lanes : BitVec 4) (data draw : Word) : Word :=
  let pick (k : Nat) : Byte := if lanes.getLsbD k then data.extractLsb' (8 * k) 8 else draw.extractLsb' (8 * k) 8
  pick 3 ++ pick 2 ++ pick 1 ++ pick 0

end Sys2Proof.Machine
end

