-- ==== Sys2Proof/Machine/Transaction.lean ====
section
/-! DEFINITION. One transaction as a pure function of the configuration and the line (spec/45_transaction_model.md). It
adds no behaviour: the step never calls it, and that the cycle rules refine it (R490) is a statement. The line is the
list `x` of the levels seen so far at the evaluated sample ticks, so "not decided yet" is an answer; the spec's ⊥
is a line of which no prefix decides (R481, R489). -/

namespace Sys2Proof.Machine

/-- The outcome of a transaction: what `complete` is called with, and the frame left in FB (R481). -/
structure TxnOutcome where
  result : ResultReg
  frame : Vector Byte 5
deriving DecidableEq, Repr

/-- A decided transaction (R481): its outcome, the tick at which the line decided it, and the number of ASSEMBLE cycles
after that tick's edge, 0 for a handshake timeout (R484, R485). -/
structure TxnEnd where
  outcome : TxnOutcome
  tick : Nat
  assembleCycles : Nat
deriving DecidableEq, Repr

/-! ## Handshake (R482) -/

/-- Where the acknowledgement wait stands: waiting, timed out at a tick, or the window opened at a tick. -/
inductive AckEdge where
  | waiting
  | timedOut (tick : Nat)
  | opened (tick : Nat)
deriving DecidableEq, Repr

/-- The first low at a tick of at least `k`, against the bound L (0 is no bound), on the line `x` from tick `k` on. -/
def ackEdge (L : Nat) : Nat → List Level → AckEdge
  | _, [] => .waiting
  | k, x :: xs => if x = false then .opened k else if k + 1 = L then .timedOut k else ackEdge L (k + 1) xs

/-! ## Pulses (R483) -/

/-- How many leading levels of the line equal `v`, counted up to `cap`. -/
def runLength (v : Level) : Nat → List Level → Nat
  | 0, _ => 0
  | _, [] => 0
  | cap + 1, x :: xs => if x = v then runLength v cap xs + 1 else 0

/-- A resolved pulse: its result, the tick that resolved it, and how many ticks after its own start the next starts. -/
structure PulseRun where
  result : PulseResult
  resolved : Nat
  length : Nat
deriving DecidableEq, Repr

/-- RUN(v, t0) on the line `x` from tick `t0` on, if `x` is long enough to resolve it (R483). -/
def runPulse (B : Nat) (v : Level) (t0 : Nat) (x : List Level) : Option PulseRun :=
  let n := runLength v B x
  if B ≤ n then some ⟨.timeout, t0 + B - 1, B⟩
  else if n < x.length then some ⟨.count (BitVec.ofNat 16 n), t0 + n, n⟩
  else none

/-- The results of `m + 1` pulses of alternating level from `v` on, and the tick that resolved the last. -/
def runPulses (B : Nat) : Nat → Level → Nat → List Level → Option (List PulseResult × Nat)
  | 0, v, t0, x => (runPulse B v t0 x).map fun p => ([p.result], p.resolved)
  | m + 1, v, t0, x =>
    match runPulse B v t0 x with
    | none => none
    | some p => (runPulses B m (!v) (t0 + p.length) (x.drop p.length)).map fun q => (p.result :: q.1, q.2)

/-! ## Assembly (R485) -/

/-- The outcome of a handshake timeout of cause `hsph`: an all-zero frame (R482, R484). -/
def handshakeOutcome (hsph : BitVec 2) : TxnOutcome := ⟨⟨.handshakeTimeout, 0#6, false, hsph⟩, zeroFrame⟩

/-- Is a result TIMEOUT? -/
def PulseResult.isTimeout : PulseResult → Bool
  | .count _ => false
  | .timeout => true

/-- `cnt(r)`. A TIMEOUT has none, and R485 never asks for it. -/
def PulseResult.cnt : PulseResult → Half
  | .count n => n
  | .timeout => 0#16

/-- The loop of R485 with `left` bits after this one, on the frame so far: the outcome and the bit that gave it. -/
def assembleFrom (lit : Bool) (samp : Nat → PulseResult) : Nat → Vector Byte 5 → TxnOutcome × Nat
  | left, fb =>
    let i := 39 - left
    let lo := samp (2 * i)
    let hi := samp (2 * i + 1)
    if lo.isTimeout || hi.isTimeout then
      (⟨⟨.pulseTimeout, BitVec.ofNat 6 i, !lo.isTimeout, 0#2⟩, fb⟩, i)
    else
      let fb' := foldBit fb (i / 8) (classify lo.cnt hi.cnt)
      if lit && frameOk fb' then (⟨⟨.success, BitVec.ofNat 6 (i + 1), false, 0#2⟩, fb'⟩, i)
      else
        match left with
        | 0 => (⟨⟨if frameOk fb' then .success else .checksumMismatch, 40#6, false, 0#2⟩, fb'⟩, i)
        | left + 1 => assembleFrom lit samp left fb'

/-- ASSEMBLY over SAMP[0..79] (R485): all 40 bits, from the zeroed frame. -/
def assembly (lit : Bool) (samp : Nat → PulseResult) : TxnOutcome × Nat := assembleFrom lit samp 39 zeroFrame

/-! ## The whole transaction (R486) -/

/-- The pulses from the acknowledgement edge at tick `a` on: two of the acknowledgement (R484), then the 80 of the
capture and the assembly. `x` is the line from tick `a` on. -/
def txnPulses (B : Nat) (lit : Bool) (a : Nat) (x : List Level) : Option TxnEnd :=
  match runPulse B false a x with
  | none => none
  | some p0 =>
    if p0.result.isTimeout then some ⟨handshakeOutcome 2#2, p0.resolved, 0⟩
    else
      let x1 := x.drop p0.length
      match runPulse B true (a + p0.length) x1 with
      | none => none
      | some p1 =>
        if p1.result.isTimeout then some ⟨handshakeOutcome 3#2, p1.resolved, 0⟩
        else
          match runPulses B 79 false (a + p0.length + p1.length) (x1.drop p1.length) with
          | none => none
          | some (samp, tick) =>
            let r := assembly lit fun k => samp.getD k .timeout
            some ⟨r.1, tick, r.2 + 1⟩

/-- TXN(B, L, r, lit, x): RELDLY enters only through which ticks `x` lists (R480, R486). -/
def txn (B L : Nat) (lit : Bool) (x : List Level) : Option TxnEnd :=
  match ackEdge L 0 x with
  | .waiting => none
  | .timedOut tick => some ⟨handshakeOutcome 1#2, tick, 0⟩
  | .opened a => txnPulses B lit a (x.drop a)

end Sys2Proof.Machine
end

