-- ==== Sys2Proof/Safety.lean ====
section
/-! DEFINITION. What the statements are made of: the legal states, runs and their inputs, and the observations of a
state. The block has no fault outcomes (spec/00_scope.md rule R25), so a safe run is one that stays legal. -/

namespace Sys2Proof.Machine

/-! ## Encodings -/

/-- Every read (WE = 0) at the word offset `slot` is the operation `i` (R150). -/
def ReadsAt (slot : Slot) (i : Instr) : Prop :=
  ∀ w : AccessWord, weOf w = false → slotOf w = slot → decode w = i

/-- Every write (WE = 1) at the word offset `slot` is the operation `f` gives for its WDATA (R143, R150). -/
def WritesAt (slot : Slot) (f : Word → Instr) : Prop :=
  ∀ w : AccessWord, weOf w = true → slotOf w = slot → decode w = f (wdataOf w)

/-- Every write to CMD whose OP, WDATA[3:0], satisfies `p` is the operation `f` gives for OP (R150, R151). -/
def CommandsAt (p : BitVec 4 → Prop) (f : BitVec 4 → Instr) : Prop :=
  ∀ w : AccessWord, weOf w = true → slotOf w = 0x01#6 → p ((wdataOf w).extractLsb' 0 4) →
    decode w = f ((wdataOf w).extractLsb' 0 4)

/-! ## Legal states -/

/-- PHASE is in the critical window (R375). -/
def inWindow (p : Phase) : Bool := p == .ackLow || p == .ackHigh || p == .capture

/-- The fields of RESULT that go with each KIND (R44, R500). -/
def legalResult (r : ResultReg) : Prop :=
  match r.kind with
  | .none => r = ResultReg.reset
  | .success => 1 ≤ r.bits.toNat ∧ r.bits.toNat ≤ 40 ∧ r.half = false ∧ r.hsph = 0#2
  | .handshakeTimeout => r.bits = 0#6 ∧ r.half = false ∧ r.hsph ≠ 0#2
  | .pulseTimeout => r.bits.toNat ≤ 39 ∧ r.hsph = 0#2
  | .checksumMismatch => r.bits = 40#6 ∧ r.half = false ∧ r.hsph = 0#2

/-- The frame after the first `m` bits of the samples, each folded in as R410 says (R411, R417). -/
def frameAfter (samp : Vector Sample 80) : Nat → Vector Byte 5
  | 0 => zeroFrame
  | m + 1 => foldBit (frameAfter samp m) (m / 8) (classify (sampleAt samp (2 * m)).cnt (sampleAt samp (2 * m + 1)).cnt)

/-- The legal states: what the rules of the spec promise of every state from reset on. -/
structure Legal (s : State) : Prop where
  /-- B is at least 2 (R38). -/
  budget : 2 ≤ s.budget.toNat
  /-- The window is open exactly in ACK_LOW, ACK_HIGH and CAPTURE (R375). -/
  crit : s.critQ = inWindow s.phase
  /-- DONE and CACHED are 0 throughout a transaction (R114, R521). -/
  notDone : s.phase ≠ .idle → s.done = false ∧ s.cached = false
  /-- SETTLE_PH is entered only for SETTLE != 0, and `wcnt` stays in range (R304, R312). -/
  settle : s.phase = .settle → s.settle ≠ 0#8 ∧ s.wcnt.toNat ≤ s.settle.toNat
  /-- START is entered only for STARTLOW != 0, and `wcnt` stays in range (R304, R312). -/
  start : s.phase = .start → s.startlow ≠ 0#8 ∧ s.wcnt.toNat ≤ s.startlow.toNat
  /-- At most RELDLY ticks are discarded (R322, R495). -/
  discarded : s.phase = .ackWait → s.sk.toNat ≤ s.reldly.toNat
  /-- `aw` stays below the bound, and is never counted without one (R326, R495). -/
  waited : s.phase = .ackWait → if s.acklim = 0#16 then s.aw = 0#16 else s.aw.toNat < s.acklim.toNat
  /-- `c` stays below B (R360, R495). -/
  count : inWindow s.phase = true → s.c.toNat < s.budget.toNat
  /-- An acknowledgement pulse has counted its first sample (R323, R365, R366). -/
  ackCount : s.phase = .ackLow ∨ s.phase = .ackHigh → 1 ≤ s.c.toNat
  /-- j <= 79 (R370, R495). -/
  pulse : s.phase = .capture → s.j.toNat ≤ 79
  /-- i <= 39 (R405, R495). -/
  bit : s.phase = .assemble → s.i.toNat ≤ 39
  /-- From acceptance until ASSEMBLE the frame is zero (R417, R581). -/
  frameZero : s.phase ≠ .idle → s.phase ≠ .assemble → s.fb = zeroFrame
  /-- In ASSEMBLE the frame is the first i bits folded, none of them timed out (R400, R411, R417). -/
  frame : s.phase = .assemble → s.fb = frameAfter s.samp s.i.toNat ∧
    ∀ k, k < 2 * s.i.toNat → (sampleAt s.samp k).timedOut = false
  /-- The cache is empty exactly while no transaction has completed (R44, R451). -/
  cache : s.haveResult = false ↔ s.result.kind = .none
  /-- Before the first completion LASTTIME is 0 and nothing is done or cached (R451, R454, R458). -/
  empty : s.haveResult = false → s.lasttime = 0#32 ∧ s.done = false ∧ s.cached = false
  /-- RESULT's fields go with its KIND (R44, R500). -/
  result : legalResult s.result

/-- Every register has the value of R560's table. SAMP is left out: the table leaves it unspecified. -/
structure AtReset (s : State) : Prop where
  phase : s.phase = .idle
  ctrl : s.literal = false ∧ s.doneIe = false
  flags : s.done = false ∧ s.cached = false ∧ s.ovr = false ∧ s.ill = false
  crit : s.critQ = false
  haveResult : s.haveResult = false
  result : s.result.kind = .none ∧ s.result.bits = 0#6 ∧ s.result.half = false ∧ s.result.hsph = 0#2
  fb : ∀ k (h : k < 5), s.fb[k] = 0#8
  times : s.lasttime = 0#32 ∧ s.tstart = 0#32 ∧ s.nowms = 0#32
  budget : s.budget = Config.pBudgetReset ∧ 2 ≤ s.budget.toNat
  configuration : s.sdiv = 0#8 ∧ s.minint = 2000#32 ∧ s.startlow = 20#8 ∧ s.settle = 0#8 ∧ s.acklim = 0#16 ∧
    s.reldly = 0#8
  counters : s.presc = 0#8 ∧ s.wcnt = 0#9 ∧ s.rel = false ∧ s.sk = 0#8 ∧ s.aw = 0#16 ∧ s.c = 0#16 ∧ s.j = 0#7 ∧
    s.i = 0#6
  sync : s.sync1 = true ∧ s.sync2 = true

/-! ## Runs -/

/-- The inputs of the k-th coming cycle. -/
def inputAt (s : State) (k : Nat) : Input := (s.inputs[k]?).getD (drawnInput (s.cycle + k))

/-- `rst_n` is 1 in the next n cycles. -/
def OutOfReset (s : State) (n : Nat) : Prop := ∀ k, k < n → (inputAt s k).rstN = true

/-- n steps of the machine. -/
def run (n : Nat) (s : State) : Host.Outcome State Fault Refusal := Host.Core.run Sys2Proof.core n s

/-- The state after a step, or the state itself should a step ever stop. -/
def after (s : State) : State := match step s with
  | .next t => t
  | .fault _ => s
  | .refused _ => s

/-- A cycle in which a tick of R480's sequence falls: a sample tick of the transaction, from the first that ACK_WAIT
evaluates on, whatever phase it falls in. The phases before ACK_WAIT do not enter. Nor does IDLE: the transaction is not
yet accepted there, or it is over, and then no later tick matters (R489). -/
def evaluates (s : State) : Bool := tickS s && match s.phase with
  | .idle | .settle | .start | .release => false
  | .ackWait => s.sk == s.reldly
  | .ackLow | .ackHigh | .capture | .assemble => true

/-- The line of R480 over the next n cycles: `pin_s` in each evaluated cycle, in order. -/
def lineOf : Nat → State → List Level
  | 0, _ => []
  | n + 1, s => if evaluates s then pinS s :: lineOf n (after s) else lineOf n (after s)

/-- The transaction function's end `e`, as the block shows it n cycles after `s`, in `t` (R486, R490): the deciding tick
of the line fell in cycle k, and `e.assembleCycles` cycles later, not before, the block has completed with the outcome. -/
def ShowsEnd (s : State) (n : Nat) (e : TxnEnd) (tstart : Word) (t : State) : Prop :=
  ∃ k, k < n ∧ (lineOf k s).length = e.tick ∧ (lineOf (k + 1) s).length = e.tick + 1 ∧
    if n = k + 1 + e.assembleCycles then
      t.phase = .idle ∧ t.result = e.outcome.result ∧ t.fb = e.outcome.frame ∧ t.lasttime = tstart ∧
        t.haveResult = true ∧ t.done = true
    else n < k + 1 + e.assembleCycles ∧ t.phase = .assemble ∧ t.i.toNat = n - (k + 1)

/-- The number of sample ticks in the next n cycles. -/
def ticksIn : Nat → State → Nat
  | 0, _ => 0
  | n + 1, s => (if tickS s then 1 else 0) + ticksIn n (after s)

/-- The frame after the first `m` bits of R485's fold over the sample results. -/
def foldedBits (samp : Nat → PulseResult) (m : Nat) : Vector Byte 5 :=
  (List.range m).foldl (fun fb i => foldBit fb (i / 8) (classify (samp (2 * i)).cnt (samp (2 * i + 1)).cnt)) zeroFrame

/-! ## Observations -/

/-- All a host or the line can observe of a state: every register word, every output port, and what the last read
returned (R30, R103, R546). -/
structure Observation where
  words : Byte → Word
  pinOe : Bool
  pinPu : Bool
  irq : Bool
  crit : Bool
  rdata : Option Word

/-- What is observed of a state. -/
def observe (s : State) : Observation where
  words := prdata s
  pinOe := pinOe s
  pinPu := pinPu s
  irq := irqO s
  crit := critO s
  rdata := s.rdata

/-- A measuring phase with expected level `v` resolves its pulse in this cycle as a COUNT (R360). -/
def countsNow (v : Level) (s : State) : Prop := s.sdiv.toNat ≤ s.presc.toNat ∧ s.sync2 ≠ v

/-- A measuring phase with expected level `v` resolves its pulse in this cycle as a TIMEOUT (R360). -/
def timesOutNow (v : Level) (s : State) : Prop :=
  s.sdiv.toNat ≤ s.presc.toNat ∧ s.sync2 = v ∧ s.c + 1#16 = s.budget

/-- Bit i of ASSEMBLE ends the transaction in this cycle (R406, R413, R414). -/
def endsAtBit (s : State) : Prop :=
  let lo := sampleAt s.samp (2 * s.i.toNat)
  let hi := sampleAt s.samp (2 * s.i.toNat + 1)
  lo.timedOut = true ∨ hi.timedOut = true ∨ s.i = 39#6 ∨
    (s.literal = true ∧ frameOk (foldBit s.fb (s.i.toNat / 8) (decide (lo.cnt.toNat < hi.cnt.toNat))) = true)

/-- The table of PHASE transitions, R330, for one cycle out of reset from `s` to `t`: each disjunct is a row, or the
phase staying as it is because none of its rows' conditions holds. `accepted` says that the cycle's access is a
WR_CMD_READ that is not rate-limited. -/
def PhaseStep (s : State) (inp : Input) (accepted : Prop) (t : State) : Prop :=
  match s.phase with
  | .idle =>
    (accepted ∧ t.phase = if s.settle ≠ 0#8 then .settle else if s.startlow ≠ 0#8 then .start else .release) ∨
    (¬ accepted ∧ t.phase = .idle)
  | .settle =>
    (inp.tickMs = true ∧ s.wcnt.toNat = s.settle.toNat ∧ t.phase = if s.startlow ≠ 0#8 then .start else .release) ∨
    (¬ (inp.tickMs = true ∧ s.wcnt.toNat = s.settle.toNat) ∧ t.phase = .settle)
  | .start =>
    (inp.tickMs = true ∧ s.wcnt.toNat = s.startlow.toNat ∧ t.phase = .release) ∨
    (¬ (inp.tickMs = true ∧ s.wcnt.toNat = s.startlow.toNat) ∧ t.phase = .start)
  | .release => (s.rel = true ∧ t.phase = .ackWait) ∨ (s.rel = false ∧ t.rel = true ∧ t.phase = .release)
  | .ackWait =>
    let evaluated := s.sdiv.toNat ≤ s.presc.toNat ∧ s.sk = s.reldly
    let last := s.acklim ≠ 0#16 ∧ s.aw + 1#16 = s.acklim
    (evaluated ∧ s.sync2 = false ∧ t.phase = .ackLow) ∨
    (evaluated ∧ s.sync2 = true ∧ last ∧ t.phase = .idle) ∨
    (¬ (evaluated ∧ (s.sync2 = false ∨ last)) ∧ t.phase = .ackWait)
  | .ackLow =>
    (countsNow false s ∧ t.phase = .ackHigh) ∨ (timesOutNow false s ∧ t.phase = .idle) ∨
    (¬ countsNow false s ∧ ¬ timesOutNow false s ∧ t.phase = .ackLow)
  | .ackHigh =>
    (countsNow true s ∧ t.phase = .capture ∧ t.j = 0#7) ∨ (timesOutNow true s ∧ t.phase = .idle) ∨
    (¬ countsNow true s ∧ ¬ timesOutNow true s ∧ t.phase = .ackHigh)
  | .capture =>
    let v : Level := decide (s.j.toNat % 2 = 1)
    let resolved := countsNow v s ∨ timesOutNow v s
    (resolved ∧ s.j = 79#7 ∧ t.phase = .assemble ∧ t.i = 0#6) ∨
    (resolved ∧ s.j ≠ 79#7 ∧ t.phase = .capture ∧ t.j = s.j + 1#7) ∨
    (¬ resolved ∧ t.phase = .capture ∧ t.j = s.j)
  | .assemble =>
    (endsAtBit s ∧ t.phase = .idle) ∨ (¬ endsAtBit s ∧ t.phase = .assemble ∧ t.i = s.i + 1#6)

end Sys2Proof.Machine
end

