-- ==== Sys2Proof/Certificates/Slice0/Obligations.lean ====
section
/-! DEFINITION. The statements for the provers. Each formalises the rules of spec/ that its docstring names; none is
about a program. -/

open Sys2Proof Sys2Proof.Machine

/-! ## Encoding -/

/-- All 25 access words of spec/95_test_vectors.md §2.1 decode to the operations named there (R140, R150). -/
def Obligations.ListedWordsDecode : Prop :=
  decode 0x00000000000#41 = .rdCtrl ∧ decode 0x10000000001#41 = .wrCtrl true false ∧
  decode 0x10400000001#41 = .wrCmdRead ∧ decode 0x10400000000#41 = .wrCmdNop ∧
  decode 0x104FFFFFFF1#41 = .wrCmdRead ∧ decode 0x10400000002#41 = .wrCmdRsvd2 0x2#4 ∧
  decode 0x10400000007#41 = .wrCmdRsvd4 0x7#4 ∧ decode 0x1040000000F#41 = .wrCmdRsvd8 0xF#4 ∧
  decode 0x00400000000#41 = .rdCmd ∧ decode 0x00800000000#41 = .rdStatus ∧
  decode 0x00900000000#41 = .rdStatus ∧ decode 0x10800000032#41 = .wrStatus true true true ∧
  decode 0x00C00000000#41 = .rdResult ∧ decode 0x01000000000#41 = .rdData0 ∧ decode 0x01400000000#41 = .rdData1 ∧
  decode 0x1180000000A#41 = .wrBudget 10#16 ∧ decode 0x11C0000007C#41 = .wrSdiv 0x7C#8 ∧
  decode 0x12000000005#41 = .wrMinint 5#32 ∧ decode 0x12400000001#41 = .wrStartlow 1#8 ∧
  decode 0x12C00000003#41 = .wrAcklim 3#16 ∧ decode 0x03400000000#41 = .rdNowms ∧
  decode 0x03800000000#41 = .rdLasttime ∧
  decode 0x03C00000000#41 = .rdUnmapped3C ∧ decode 0x04000000000#41 = .rdUnmapped40 0x10#6 ∧
  decode 0x1FCFFFFFFFF#41 = .wrUnmapped80 0x3F#6

/-- Decoding is total and unambiguous: of the 40 rows of spec/opcode_table.json a word lies in exactly one, the row of
the operation it decodes to, which is well formed (R142). -/
def Obligations.EveryWordHasExactlyOneRow : Prop :=
  ∀ w : AccessWord, (decode w).wf = true ∧ rowIndex (decode w) < opcodeTable.length ∧
    ∀ k r, opcodeTable[k]? = some r → (inRow r w = true ↔ k = rowIndex (decode w))

/-- ADDR[1:0] never matters, nor does WDATA of a read (R106, R140, R142). -/
def Obligations.DontCareBitsAreIgnored : Prop :=
  ∀ (we : Bool) (slot : Slot) (low low' : BitVec 2) (d d' : Word),
    decode (BitVec.ofBool we ++ slot ++ low ++ d) = decode (BitVec.ofBool we ++ slot ++ low' ++ d) ∧
    decode (BitVec.ofBool false ++ slot ++ low ++ d) = decode (BitVec.ofBool false ++ slot ++ low' ++ d')

/-- Decode and encode agree on every well-formed operation, with every operand value (R140, R143, R150). -/
def Obligations.DecodeOfEncodeIsIdentity : Prop :=
  ∀ i : Instr, i.wf = true → decode (encode i) = i

/-! ## The host operations -/

/-- RD_CTRL, RD_CMD and RD_STATUS return their words and change no register (R201, R203, R208). -/
def Obligations.ReadControlCommandStatus : Prop :=
  (ReadsAt 0x00#6 .rdCtrl ∧ ReadsAt 0x01#6 .rdCmd ∧ ReadsAt 0x02#6 .rdStatus) ∧
  ∀ s : State,
    (∃ v : Word, exec .rdCtrl s = .next { s with rdata := some v } ∧ v.toNat = s.literal.toNat + 2 * s.doneIe.toNat) ∧
    exec .rdCmd s = .next { s with rdata := some 0#32 } ∧
    ∃ v : Word, exec .rdStatus s = .next { s with rdata := some v } ∧
      v.toNat = (if s.phase = .idle then 0 else 1) + 2 * s.done.toNat + 4 * s.cached.toNat + 8 * s.critQ.toNat +
        16 * s.ovr.toNat + 32 * s.ill.toNat + 64 * s.haveResult.toNat +
        256 * (match s.phase with
          | .idle => 0 | .settle => 1 | .start => 2 | .release => 3 | .ackWait => 4 | .ackLow => 5 | .ackHigh => 6
          | .capture => 7 | .assemble => 8)

/-- RD_RESULT, RD_DATA0 and RD_DATA1 return their words and change no register (R44, R46, R47, R210, R212, R214). -/
def Obligations.ReadResultAndFrame : Prop :=
  (ReadsAt 0x03#6 .rdResult ∧ ReadsAt 0x04#6 .rdData0 ∧ ReadsAt 0x05#6 .rdData1) ∧
  ∀ s : State,
    (∃ v : Word, exec .rdResult s = .next { s with rdata := some v } ∧
      v.toNat = (match s.result.kind with
          | .none => 0 | .success => 1 | .handshakeTimeout => 2 | .pulseTimeout => 3 | .checksumMismatch => 4) +
        2 ^ 8 * s.result.bits.toNat + 2 ^ 16 * s.result.half.toNat + 2 ^ 20 * s.result.hsph.toNat) ∧
    (∃ v : Word, exec .rdData0 s = .next { s with rdata := some v } ∧
      v.toNat = s.fb[0].toNat + 2 ^ 8 * s.fb[1].toNat + 2 ^ 16 * s.fb[2].toNat + 2 ^ 24 * s.fb[3].toNat) ∧
    ∃ v : Word, exec .rdData1 s = .next { s with rdata := some v } ∧
      let sum := (s.fb[0].toNat + s.fb[1].toNat + s.fb[2].toNat + s.fb[3].toNat) % 256
      v.toNat = s.fb[4].toNat + 2 ^ 8 * sum + 2 ^ 16 * (if sum = s.fb[4].toNat then 1 else 0)

/-- The reads of the seven configuration registers return them zero-extended and change no register (R216, R218, R220,
R222, R224, R226, R228). -/
def Obligations.ReadConfiguration : Prop :=
  (ReadsAt 0x06#6 .rdBudget ∧ ReadsAt 0x07#6 .rdSdiv ∧ ReadsAt 0x08#6 .rdMinint ∧ ReadsAt 0x09#6 .rdStartlow ∧
    ReadsAt 0x0A#6 .rdSettle ∧ ReadsAt 0x0B#6 .rdAcklim ∧ ReadsAt 0x0C#6 .rdReldly) ∧
  ∀ s : State,
    (∃ v : Word, exec .rdBudget s = .next { s with rdata := some v } ∧ v.toNat = s.budget.toNat) ∧
    (∃ v : Word, exec .rdSdiv s = .next { s with rdata := some v } ∧ v.toNat = s.sdiv.toNat) ∧
    (∃ v : Word, exec .rdMinint s = .next { s with rdata := some v } ∧ v.toNat = s.minint.toNat) ∧
    (∃ v : Word, exec .rdStartlow s = .next { s with rdata := some v } ∧ v.toNat = s.startlow.toNat) ∧
    (∃ v : Word, exec .rdSettle s = .next { s with rdata := some v } ∧ v.toNat = s.settle.toNat) ∧
    (∃ v : Word, exec .rdAcklim s = .next { s with rdata := some v } ∧ v.toNat = s.acklim.toNat) ∧
    ∃ v : Word, exec .rdReldly s = .next { s with rdata := some v } ∧ v.toNat = s.reldly.toNat

/-- RD_NOWMS and RD_LASTTIME return their counters, and every unmapped offset reads 0; no register changes (R160, R230,
R232, R234). -/
def Obligations.ReadTimeAndUnmapped : Prop :=
  (ReadsAt 0x0D#6 .rdNowms ∧ ReadsAt 0x0E#6 .rdLasttime ∧ ReadsAt 0x0F#6 .rdUnmapped3C ∧
    (∀ slot : Slot, 0x10 ≤ slot.toNat → slot.toNat ≤ 0x1F → ReadsAt slot (.rdUnmapped40 slot)) ∧
    ∀ slot : Slot, 0x20 ≤ slot.toNat → ReadsAt slot (.rdUnmapped80 slot)) ∧
  ∀ (s : State) (slot : Slot),
    exec .rdNowms s = .next { s with rdata := some s.nowms } ∧
    exec .rdLasttime s = .next { s with rdata := some s.lasttime } ∧
    exec .rdUnmapped3C s = .next { s with rdata := some 0#32 } ∧
    exec (.rdUnmapped40 slot) s = .next { s with rdata := some 0#32 } ∧
    exec (.rdUnmapped80 slot) s = .next { s with rdata := some 0#32 }

/-- Any read access, aligned or not, returns the register word at `paddr[7:2]` and changes no register, flag or counter
(R103, R106). -/
def Obligations.AnyReadReturnsItsRegister : Prop :=
  ∀ (s : State) (w : AccessWord), weOf w = false →
    exec (decode w) s = .next { s with rdata := some (prdata s (addrOf w)) }

/-- WR_CTRL writes DONE_IE in every phase, and LITERAL only while IDLE: busy, a different LITERAL bit sets OVR (R202). -/
def Obligations.WriteControl : Prop :=
  (WritesAt 0x00#6 fun d => .wrCtrl (d.getLsbD 0) (d.getLsbD 1)) ∧
  ∀ (s : State) (literal doneIe : Bool),
    exec (.wrCtrl literal doneIe) s = .next (
      if s.phase = .idle then { s with doneIe := doneIe, literal := literal }
      else { s with doneIe := doneIe, ovr := s.ovr || xor literal s.literal })

/-- WR_CMD_NOP and the writes to read-only registers and unmapped offsets have no effect at all (R154, R204, R211, R213,
R215, R231, R233, R235). -/
def Obligations.IgnoredAccessesChangeNothing : Prop :=
  ((CommandsAt (· = 0x0#4) fun _ => .wrCmdNop) ∧ (WritesAt 0x03#6 fun _ => .wrResult) ∧
    (WritesAt 0x04#6 fun _ => .wrData0) ∧ (WritesAt 0x05#6 fun _ => .wrData1) ∧ (WritesAt 0x0D#6 fun _ => .wrNowms) ∧
    (WritesAt 0x0E#6 fun _ => .wrLasttime) ∧ (WritesAt 0x0F#6 fun _ => .wrUnmapped3C) ∧
    (∀ slot : Slot, 0x10 ≤ slot.toNat → slot.toNat ≤ 0x1F → WritesAt slot fun _ => .wrUnmapped40 slot) ∧
    ∀ slot : Slot, 0x20 ≤ slot.toNat → WritesAt slot fun _ => .wrUnmapped80 slot) ∧
  ∀ (s : State) (slot : Slot),
    exec .wrCmdNop s = .next s ∧ exec .wrResult s = .next s ∧ exec .wrData0 s = .next s ∧
    exec .wrData1 s = .next s ∧ exec .wrNowms s = .next s ∧ exec .wrLasttime s = .next s ∧
    exec .wrUnmapped3C s = .next s ∧ exec (.wrUnmapped40 slot) s = .next s ∧
    exec (.wrUnmapped80 slot) s = .next s

/-- WR_CMD_READ: dropped with OVR while BUSY; else a cached return if the cache holds a result younger than MININT; else
a transaction is accepted (R205, R206, R300, R453, R455, R456, R487). -/
def Obligations.ReadCommandHasThreeOutcomes : Prop :=
  (CommandsAt (· = 0x1#4) fun _ => .wrCmdRead) ∧
  ∀ s : State,
    exec .wrCmdRead s = .next (
      if s.phase ≠ .idle then { s with ovr := true }
      else if s.haveResult = true ∧ (s.nowms.toNat + 2 ^ 32 - s.lasttime.toNat) % 2 ^ 32 < s.minint.toNat then
        { s with done := true, cached := true }
      else
        { s with
          tstart := s.nowms
          fb := Vector.replicate 5 0#8
          done := false, cached := false
          wcnt := 0#9, rel := false, sk := 0#8, aw := 0#16, c := 0#16, j := 0#7, i := 0#6
          phase := if s.settle ≠ 0#8 then .settle else if s.startlow ≠ 0#8 then .start else .release })

/-- A reserved CMD.OP sets ILL and does nothing else, in any phase (R152, R207). -/
def Obligations.ReservedCommandSetsIll : Prop :=
  (CommandsAt (fun op => 0x2 ≤ op.toNat ∧ op.toNat ≤ 0x3) .wrCmdRsvd2 ∧
    CommandsAt (fun op => 0x4 ≤ op.toNat ∧ op.toNat ≤ 0x7) .wrCmdRsvd4 ∧
    CommandsAt (fun op => 0x8 ≤ op.toNat) .wrCmdRsvd8) ∧
  ∀ (s : State) (op : BitVec 4),
    exec (.wrCmdRsvd2 op) s = .next { s with ill := true } ∧
    exec (.wrCmdRsvd4 op) s = .next { s with ill := true } ∧
    exec (.wrCmdRsvd8 op) s = .next { s with ill := true }

/-- WR_STATUS clears the flags written with 1 and leaves everything else, in every phase (R209). Over the whole cycle the
set wins: if the cycle's edge completes a transaction, DONE is 1 after it (R530). -/
def Obligations.WriteStatusClearsFlags : Prop :=
  (WritesAt 0x02#6 fun d => .wrStatus (d.getLsbD 1) (d.getLsbD 4) (d.getLsbD 5)) ∧
  (∀ (s : State) (clrDone clrOvr clrIll : Bool),
    exec (.wrStatus clrDone clrOvr clrIll) s = .next
      { s with
        done := if clrDone then false else s.done
        ovr := if clrOvr then false else s.ovr
        ill := if clrIll then false else s.ill }) ∧
  ∀ (s t : State) (w : AccessWord) (clrDone clrOvr clrIll : Bool), (nextInput s).rstN = true →
    accessOf (nextInput s) = some w → decode w = .wrStatus clrDone clrOvr clrIll → step s = .next t →
    t.done = (if s.phase ≠ .idle ∧ t.phase = .idle then true else s.done && !clrDone) ∧
      t.ovr = (s.ovr && !clrOvr) ∧ t.ill = (s.ill && !clrIll)

/-- WR_BUDGET stores the larger of 2 and the written value while IDLE; while BUSY it is dropped with OVR (R217, R240). -/
def Obligations.WriteBudgetLegalises : Prop :=
  (WritesAt 0x06#6 fun d => .wrBudget (d.extractLsb' 0 16)) ∧
  ∀ (s : State) (b : Half),
    exec (.wrBudget b) s = .next (
      if s.phase = .idle then { s with budget := BitVec.ofNat 16 (max 2 b.toNat) } else { s with ovr := true })

/-- The other configuration writes store their value while IDLE; while BUSY they, and WR_BUDGET, are dropped with OVR
(R219, R221, R223, R225, R227, R229, R240). -/
def Obligations.WriteConfiguration : Prop :=
  ((WritesAt 0x07#6 fun d => .wrSdiv (d.extractLsb' 0 8)) ∧ WritesAt 0x08#6 .wrMinint ∧
    (WritesAt 0x09#6 fun d => .wrStartlow (d.extractLsb' 0 8)) ∧ (WritesAt 0x0A#6 fun d => .wrSettle (d.extractLsb' 0 8)) ∧
    (WritesAt 0x0B#6 fun d => .wrAcklim (d.extractLsb' 0 16)) ∧
    WritesAt 0x0C#6 fun d => .wrReldly (d.extractLsb' 0 8)) ∧
  ∀ (s : State) (v : Byte) (l : Half) (m : Word),
    exec (.wrSdiv v) s = .next (if s.phase = .idle then { s with sdiv := v } else { s with ovr := true }) ∧
    exec (.wrMinint m) s = .next (if s.phase = .idle then { s with minint := m } else { s with ovr := true }) ∧
    exec (.wrStartlow v) s = .next (if s.phase = .idle then { s with startlow := v } else { s with ovr := true }) ∧
    exec (.wrSettle v) s = .next (if s.phase = .idle then { s with settle := v } else { s with ovr := true }) ∧
    exec (.wrAcklim l) s = .next (if s.phase = .idle then { s with acklim := l } else { s with ovr := true }) ∧
    exec (.wrReldly v) s = .next (if s.phase = .idle then { s with reldly := v } else { s with ovr := true }) ∧
    (s.phase ≠ .idle → exec (.wrBudget l) s = .next { s with ovr := true })

/-- No host operation changes PHASE except WR_CMD_READ in IDLE (R331). -/
def Obligations.OnlyReadCommandStartsTheSequencer : Prop :=
  ∀ (i : Instr) (s t : State), exec i s = .next t → t.phase ≠ s.phase → i = .wrCmdRead ∧ s.phase = .idle

/-- OVR and ILL after any access: set by exactly the accesses R505 and R506 list, cleared by nothing but a W1C write
(R505, R506, R507). -/
def Obligations.MisuseFlagsAfterAccess : Prop :=
  ∀ (i : Instr) (s t : State), exec i s = .next t →
    (t.ovr = true ↔
      (s.ovr = true ∧ ¬ ∃ d x, i = .wrStatus d true x) ∨
      (s.phase ≠ .idle ∧
        (i = .wrCmdRead ∨ (∃ v, i = .wrBudget v) ∨ (∃ v, i = .wrSdiv v) ∨ (∃ v, i = .wrMinint v) ∨
          (∃ v, i = .wrStartlow v) ∨ (∃ v, i = .wrSettle v) ∨ (∃ v, i = .wrAcklim v) ∨ (∃ v, i = .wrReldly v) ∨
          ∃ l d, i = .wrCtrl l d ∧ l ≠ s.literal))) ∧
    (t.ill = true ↔
      (s.ill = true ∧ ¬ ∃ d o, i = .wrStatus d o true) ∨
      (∃ op, i = .wrCmdRsvd2 op) ∨ (∃ op, i = .wrCmdRsvd4 op) ∨ ∃ op, i = .wrCmdRsvd8 op)

/-! ## The step -/

/-- A step runs the decoded operation: in an access cycle it is `exec` of the operation on the state with the cycle's
inputs taken, then the edge that ends the cycle; in a cycle without an access it is the edge alone. `withFetchWord`
makes the next cycle such an access cycle. That a cycle is run in these two parts, and what `withFetchWord` puts in front,
is the model's choice (notes/assumptions/9.md); that both parts read the pre-edge state is R15, and what an access is,
R102 and R105. -/
def Obligations.StepRunsTheDecodedOperation : Prop :=
  (∀ (s h : State) (w : AccessWord), accessOf (nextInput s) = some w →
    exec (decode w) (beginCycle s) = .next h → step s = .next (edge (nextInput s) (beginCycle s) h)) ∧
  (∀ s : State, accessOf (nextInput s) = none →
    step s = .next (edge (nextInput s) (beginCycle s) (beginCycle s))) ∧
  ∀ (s h : State) (nbits w : Nat), w < 2 ^ 41 →
    exec (decode (BitVec.ofNat 41 w)) (beginCycle (s.withFetchWord nbits w)) = .next h →
    step (s.withFetchWord nbits w) =
      .next (edge (nextInput (s.withFetchWord nbits w)) (beginCycle (s.withFetchWord nbits w)) h)

/-- An access is a cycle with `psel` = 1 and `penable` = 1, and its word is {pwrite, paddr, pwdata} (R102, R140). -/
def Obligations.AccessNeedsSelectAndEnable : Prop :=
  ∀ inp : Input,
    (accessOf inp = none ↔ inp.psel = false ∨ inp.penable = false) ∧
    ∀ w, accessOf inp = some w →
      w.toNat = inp.pwrite.toNat * 2 ^ 40 + inp.paddr.toNat * 2 ^ 32 + inp.pwdata.toNat

/-- No step ever faults or is refused (R25, R500). -/
def Obligations.EveryStepHasANextState : Prop :=
  ∀ s : State, ∃ t, step s = .next t

/-- A cycle with `rst_n` = 0 leaves every register at its reset value, whatever else happens in it (R512, R560, R564). -/
def Obligations.ResetWinsOverEverything : Prop :=
  ∀ s : State, (nextInput s).rstN = false →
    ∃ t, step s = .next t ∧ AtReset t ∧ pinOe t = false ∧ pinPu t = true ∧ irqO t = false ∧ critO t = false ∧
      ∀ off : Byte, prdata t off = prdata State.reset off

/-- The state right after reset has every register at the value R560 gives it, and the words the host reads are those of
R34's table (R34, R560). -/
def Obligations.ResetStateIsTheTable : Prop :=
  AtReset State.reset ∧
  (∀ off : Byte, off ∈ [0x00#8, 0x04#8, 0x08#8, 0x0C#8, 0x10#8, 0x1C#8, 0x28#8, 0x2C#8, 0x30#8, 0x34#8, 0x38#8] →
    prdata State.reset off = 0#32) ∧
  prdata State.reset 0x14#8 = 0x00010000#32 ∧ (prdata State.reset 0x18#8).toNat = Config.pBudgetReset.toNat ∧
  prdata State.reset 0x20#8 = 0x7D0#32 ∧ prdata State.reset 0x24#8 = 0x14#32 ∧
  ∀ off : Byte, 0x3C ≤ off.toNat → prdata State.reset off = 0#32

/-- In every cycle out of reset, in every phase and whatever the host does: the prescaler ticks once in SDIV + 1 cycles,
the synchronizer shifts the pad in, and NOWMS counts the ms ticks mod 2^32 (R350, R352, R450, R531). -/
def Obligations.FreeRunningRegisters : Prop :=
  ∀ s : State, (nextInput s).rstN = true →
    ∃ t, step s = .next t ∧
      t.presc.toNat = (if s.sdiv.toNat ≤ s.presc.toNat then 0 else s.presc.toNat + 1) ∧
      (tickS s = true ↔ s.sdiv.toNat ≤ s.presc.toNat) ∧
      t.sync1 = (nextInput s).pinI ∧ t.sync2 = s.sync1 ∧ pinS s = s.sync2 ∧
      t.nowms.toNat = (s.nowms.toNat + (if (nextInput s).tickMs then 1 else 0)) % 2 ^ 32

/-- The output ports of every state (R53, R302, R520). -/
def Obligations.OutputsAreFunctionsOfState : Prop :=
  ∀ s : State,
    (pinOe s = true ↔ s.phase = .start) ∧ pinO s = false ∧ (pinPu s = true ↔ s.phase ≠ .start) ∧
    critO s = s.critQ ∧ (irqO s = true ↔ s.done = true ∧ s.doneIe = true) ∧ pready s = true ∧ pslverr s = false

/-- `complete` writes RESULT, whose word is {HSPH, 000, HALF, 00, BITS, 00000, KIND}, LASTTIME, `have_result`, `done`,
`crit_q` and PHASE, and nothing else; the line is then released (R420). -/
def Obligations.CompleteIsTheCacheUpdate : Prop :=
  ∀ (kind : Kind) (bits : BitVec 6) (half : Bool) (hsph : BitVec 2) (s h : State),
    complete kind bits half hsph s h =
      { h with
        result := ⟨kind, bits, half, hsph⟩, lasttime := s.tstart, haveResult := true, done := true, critQ := false
        phase := .idle } ∧
    (resultWord ⟨kind, bits, half, hsph⟩).toNat =
      (match kind with
        | .none => 0 | .success => 1 | .handshakeTimeout => 2 | .pulseTimeout => 3 | .checksumMismatch => 4) +
        2 ^ 8 * bits.toNat + 2 ^ 16 * half.toNat + 2 ^ 20 * hsph.toNat ∧
    pinOe (complete kind bits half hsph s h) = false ∧ pinPu (complete kind bits half hsph s h) = true

/-! ## The units, edge by edge: what one edge out of reset writes beside the free-running registers -/

/-- SETTLE_PH (R305). -/
def Obligations.SettleEdge : Prop :=
  ∀ (inp : Input) (s h : State), inp.rstN = true → s.phase = .settle →
    edge inp s h =
      if inp.tickMs = false then freeRun inp s h
      else if s.wcnt = s.settle.setWidth 9 then
        { freeRun inp s h with
          wcnt := 0#9, rel := false, phase := if s.startlow ≠ 0#8 then .start else .release }
      else { freeRun inp s h with wcnt := s.wcnt + 1#9 }

/-- START (R310). -/
def Obligations.StartEdge : Prop :=
  ∀ (inp : Input) (s h : State), inp.rstN = true → s.phase = .start →
    edge inp s h =
      if inp.tickMs = false then freeRun inp s h
      else if s.wcnt = s.startlow.setWidth 9 then
        { freeRun inp s h with wcnt := 0#9, rel := false, phase := .release }
      else { freeRun inp s h with wcnt := s.wcnt + 1#9 }

/-- RELEASE (R320), and IDLE, in which no unit acts. -/
def Obligations.ReleaseAndIdleEdge : Prop :=
  ∀ (inp : Input) (s h : State), inp.rstN = true →
    (s.phase = .release →
      edge inp s h =
        if s.rel = false then { freeRun inp s h with rel := true }
        else { freeRun inp s h with phase := .ackWait, sk := 0#8, aw := 0#16 }) ∧
    (s.phase = .idle → edge inp s h = freeRun inp s h)

/-- ACK_WAIT: no tick, discarded ticks, the acknowledgement edge, the unbounded and the bounded wait (R322, R323, R324,
R325, R326). In a legal state no more than RELDLY ticks have been discarded. -/
def Obligations.AckWaitEdge : Prop :=
  ∀ (inp : Input) (s h : State), Legal s → inp.rstN = true → s.phase = .ackWait →
    edge inp s h =
      if s.presc.toNat < s.sdiv.toNat then freeRun inp s h
      else if s.sk.toNat < s.reldly.toNat then { freeRun inp s h with sk := s.sk + 1#8 }
      else if s.sync2 = false then { freeRun inp s h with critQ := true, phase := .ackLow, c := 1#16 }
      else if s.acklim = 0#16 then freeRun inp s h
      else if s.aw + 1#16 = s.acklim then complete .handshakeTimeout 0#6 false 1#2 s (freeRun inp s h)
      else { freeRun inp s h with aw := s.aw + 1#16 }

/-- ACK_LOW and ACK_HIGH: MEASURE and what its result does (R360, R365, R366). -/
def Obligations.AcknowledgementEdges : Prop :=
  ∀ (inp : Input) (s h : State), inp.rstN = true →
    (s.phase = .ackLow →
      edge inp s h =
        if s.presc.toNat < s.sdiv.toNat then freeRun inp s h
        else if s.sync2 = true then { freeRun inp s h with c := 1#16, phase := .ackHigh }
        else if s.c + 1#16 = s.budget then
          complete .handshakeTimeout 0#6 false 2#2 s { freeRun inp s h with c := 0#16 }
        else { freeRun inp s h with c := s.c + 1#16 }) ∧
    (s.phase = .ackHigh →
      edge inp s h =
        if s.presc.toNat < s.sdiv.toNat then freeRun inp s h
        else if s.sync2 = false then { freeRun inp s h with c := 1#16, phase := .capture, j := 0#7 }
        else if s.c + 1#16 = s.budget then
          complete .handshakeTimeout 0#6 false 3#2 s { freeRun inp s h with c := 0#16 }
        else { freeRun inp s h with c := s.c + 1#16 })

/-- CAPTURE: the level expected of pulse j is j mod 2; a count or a TIMEOUT is stored in SAMP[j], and the 80th pulse
starts ASSEMBLE and ends the window. What a TIMEOUT stores beside its mark is any value (R18, R360, R370). -/
def Obligations.CaptureEdge : Prop :=
  ∀ (inp : Input) (s h : State), inp.rstN = true → s.phase = .capture →
    if s.presc.toNat < s.sdiv.toNat then edge inp s h = freeRun inp s h
    else if s.sync2 = decide (s.j.toNat % 2 = 1) ∧ s.c + 1#16 ≠ s.budget then
      edge inp s h = { freeRun inp s h with c := s.c + 1#16 }
    else ∃ r : Sample,
      (if s.sync2 = decide (s.j.toNat % 2 = 1) then r.timedOut = true else r = ⟨false, s.c⟩) ∧
      edge inp s h =
        { freeRun inp s h with
          c := if s.sync2 = decide (s.j.toNat % 2 = 1) then 0#16 else 1#16
          samp := s.samp.setIfInBounds s.j.toNat r
          j := if s.j = 79#7 then h.j else s.j + 1#7
          critQ := if s.j = 79#7 then false else h.critQ
          phase := if s.j = 79#7 then .assemble else h.phase
          i := if s.j = 79#7 then 0#6 else h.i }

/-- ASSEMBLE, bit i: timeout test, then classify, fold and check, in that order (R400, R406, R407, R410, R412, R413,
R414). -/
def Obligations.AssembleEdge : Prop :=
  ∀ (inp : Input) (s h : State) (lo hi : Sample), inp.rstN = true → s.phase = .assemble →
    s.samp[2 * s.i.toNat]? = some lo → s.samp[2 * s.i.toNat + 1]? = some hi →
    let k := s.i.toNat / 8
    let lane := (s.fb[k]?).getD 0#8
    let bit : Byte := if lo.cnt.toNat < hi.cnt.toNat then 1#8 else 0#8
    let fb := s.fb.setIfInBounds k (lane <<< 1 ||| bit)
    let ok := (fb[0].toNat + fb[1].toNat + fb[2].toNat + fb[3].toNat) % 256 = fb[4].toNat
    edge inp s h =
      if lo.timedOut = true then complete .pulseTimeout s.i false 0#2 s (freeRun inp s h)
      else if hi.timedOut = true then complete .pulseTimeout s.i true 0#2 s (freeRun inp s h)
      else if s.literal = true ∧ ok then
        complete .success (s.i + 1#6) false 0#2 s { freeRun inp s h with fb := fb }
      else if s.i = 39#6 then
        complete (if ok then .success else .checksumMismatch) 40#6 false 0#2 s { freeRun inp s h with fb := fb }
      else { freeRun inp s h with fb := fb, i := s.i + 1#6 }

/-! ## Rules about every step -/

/-- The complete set of PHASE transitions, with their conditions; a return to IDLE other than by reset is a completion
(R330). -/
def Obligations.PhaseGraph : Prop :=
  ∀ s t : State, step s = .next t →
    ((nextInput s).rstN = false → t.phase = .idle) ∧
    ((nextInput s).rstN = true →
      PhaseStep s (nextInput s)
        ((∃ w, accessOf (nextInput s) = some w ∧ decode w = .wrCmdRead) ∧
          ¬ (s.haveResult = true ∧ (s.nowms - s.lasttime).toNat < s.minint.toNat)) t ∧
      (s.phase ≠ .idle → t.phase = .idle →
        ∃ kind bits half hsph g, kind ≠ Kind.none ∧ t = complete kind bits half hsph (beginCycle s) g))

/-- Completion is the only way back to IDLE out of reset: it writes RESULT, LASTTIME from `tstart`, VALID and DONE
together and closes the window, and it wins over a clear of DONE in the same cycle (R420, R457, R515, R530). -/
def Obligations.CompletionUpdatesTheCache : Prop :=
  ∀ s t : State, (nextInput s).rstN = true → step s = .next t → s.phase ≠ .idle → t.phase = .idle →
    t.result.kind ≠ .none ∧ t.lasttime = s.tstart ∧ t.haveResult = true ∧ t.done = true ∧ t.critQ = false ∧
      t.cached = s.cached ∧ t.tstart = s.tstart ∧ pinOe t = false

/-- Nothing but a completion changes RESULT, LASTTIME or VALID (R421, R451). -/
def Obligations.OnlyCompletionChangesTheCache : Prop :=
  ∀ s t : State, (nextInput s).rstN = true → step s = .next t → (s.phase = .idle ∨ t.phase ≠ .idle) →
    t.result = s.result ∧ t.lasttime = s.lasttime ∧ t.haveResult = s.haveResult

/-- While a transaction runs its configuration does not change (R240, R301). -/
def Obligations.ConfigurationIsFixedWhileBusy : Prop :=
  ∀ s t : State, (nextInput s).rstN = true → step s = .next t → s.phase ≠ .idle →
    t.budget = s.budget ∧ t.sdiv = s.sdiv ∧ t.minint = s.minint ∧ t.startlow = s.startlow ∧ t.settle = s.settle ∧
      t.acklim = s.acklim ∧ t.reldly = s.reldly ∧ t.literal = s.literal

/-- The block itself never changes OVR or ILL: after a cycle they are what the access left (R508). -/
def Obligations.BlockNeverTouchesMisuseFlags : Prop :=
  ∀ (inp : Input) (s h : State), inp.rstN = true → (edge inp s h).ovr = h.ovr ∧ (edge inp s h).ill = h.ill

/-- A legal state is legal after every cycle (R38, R155, R375, R495, R521). -/
def Obligations.EveryStepKeepsTheStateLegal : Prop :=
  ∀ s t : State, Legal s → step s = .next t → Legal t

/-- The state after reset is legal. -/
def Obligations.ResetStateIsLegal : Prop := Legal State.reset

/-- `crit_o` rises exactly on the edge from ACK_WAIT to ACK_LOW, and falls exactly on an edge out of ACK_LOW, ACK_HIGH or
CAPTURE to a phase outside them (R375). -/
def Obligations.CriticalWindowEdges : Prop :=
  ∀ s t : State, Legal s → (nextInput s).rstN = true → step s = .next t →
    ((s.critQ = false ∧ t.critQ = true) ↔ (s.phase = .ackWait ∧ t.phase = .ackLow)) ∧
    ((s.critQ = true ∧ t.critQ = false) ↔ (inWindow s.phase = true ∧ (t.phase = .idle ∨ t.phase = .assemble)))

/-- The block asks for no service during a transaction, so not inside its window either (R521). -/
def Obligations.NoInterruptWhileBusy : Prop :=
  ∀ s : State, Legal s → (s.phase ≠ .idle ∨ critO s = true) → s.done = false ∧ irqO s = false

/-! ## Runs -/

/-- As long as no transaction is accepted, a cached result stays what it was, bit for bit, through any cycles out of
reset: RESULT, DATA0, DATA1 and LASTTIME, and the line stays released (R455, R458, R459). -/
def Obligations.CacheKeptWithoutTransaction : Prop :=
  ∀ (n : Nat) (s t : State), OutOfReset s n → run n s = .next t →
    (∀ m u, m ≤ n → run m s = .next u → u.phase = .idle) →
    t.result = s.result ∧ t.fb = s.fb ∧ t.lasttime = s.lasttime ∧ t.haveResult = s.haveResult ∧
      prdata t 0x0C#8 = prdata s 0x0C#8 ∧ prdata t 0x10#8 = prdata s 0x10#8 ∧ prdata t 0x14#8 = prdata s 0x14#8 ∧
      pinOe t = false

/-- With ACKLIM = 0 and a line that never reads low, ACK_WAIT never ends, whatever the host does (R325, R580). -/
def Obligations.UnboundedWaitNeverEnds : Prop :=
  ∀ (n : Nat) (s : State), OutOfReset s n → s.phase = .ackWait → s.acklim = 0#16 →
    s.sync1 = true → s.sync2 = true → (∀ k, k < n → (inputAt s k).pinI = true) →
    ∃ t, run n s = .next t ∧ t.phase = .ackWait ∧ t.result = s.result

/-- Without an ms tick SETTLE_PH and START never end, and START keeps driving the pad (R305, R310, R580). -/
def Obligations.NoTickNoProgress : Prop :=
  ∀ (n : Nat) (s : State), OutOfReset s n → (s.phase = .settle ∨ s.phase = .start) →
    (∀ k, k < n → (inputAt s k).tickMs = false) →
    ∃ t, run n s = .next t ∧ t.phase = s.phase ∧ t.wcnt = s.wcnt ∧ pinOe t = pinOe s

/-- A bounded wait ends: from a legal state in ACK_WAIT with ACKLIM = L ≠ 0, no more than the rest of RELDLY and of L
sample ticks pass before the phase is left (R322, R326). -/
def Obligations.BoundedWaitEnds : Prop :=
  ∀ (n : Nat) (s : State), Legal s → OutOfReset s n → s.phase = .ackWait → s.acklim ≠ 0#16 →
    (s.reldly.toNat - s.sk.toNat) + (s.acklim.toNat - s.aw.toNat) ≤ ticksIn n s →
    ∃ m t, m ≤ n ∧ run m s = .next t ∧ (t.phase = .ackLow ∨ t.phase = .idle)

/-- Once the critical window is open it closes: from a legal state inside it, at most 82·B sample ticks pass before the
window is left (R372). -/
def Obligations.CriticalWindowIsBounded : Prop :=
  ∀ (n : Nat) (s : State), Legal s → OutOfReset s n → critO s = true → 82 * s.budget.toNat ≤ ticksIn n s →
    ∃ m t, m ≤ n ∧ run m s = .next t ∧ critO t = false ∧ (t.phase = .idle ∨ t.phase = .assemble)

/-- SAMP's content when no capture has begun is never observable: two states that differ only there give the same
observations in every cycle, with the same inputs (R50, R562). -/
def Obligations.OldSamplesAreUnobservable : Prop :=
  ∀ (n : Nat) (s : State) (samp : Vector Sample 80), s.phase ≠ .capture → s.phase ≠ .assemble →
    ∃ t t', run n s = .next t ∧ run n { s with samp := samp } = .next t' ∧ observe t = observe t'

/-! ## The transaction function -/

/-- The pulse of R361 and R483: MEASURE run over the ticks of a pulse, from count 0, resolves it exactly when RUN does
and with RUN's result; the tick before it resolves leaves the run length so far in the counter. -/
def Obligations.MeasureIsRunLength : Prop :=
  ∀ (v : Level) (b : Half) (x : List Level) (y : Level), 2 ≤ b.toNat →
    (∀ l ∈ x, l = v) → x.length < b.toNat →
    measureTick v y b (BitVec.ofNat 16 x.length) =
      match runPulse b.toNat v 0 (x ++ [y]) with
      | some p => (some p.result, if p.result.isTimeout then 0#16 else 1#16)
      | none => (none, BitVec.ofNat 16 (x.length + 1))

/-- ASSEMBLE refines the fold of R485: from its first cycle with the zeroed frame, the outcome the function gives for bit
i is completed at the edge ending cycle i + 1, and not before (R400, R485). -/
def Obligations.AssembleRefinesTheFold : Prop :=
  ∀ (s : State), s.phase = .assemble → s.i = 0#6 → s.fb = zeroFrame →
    let f := assembly s.literal fun k =>
      if (sampleAt s.samp k).timedOut then .timeout else .count (sampleAt s.samp k).cnt
    f.2 ≤ 39 ∧
    (∀ m t, m ≤ f.2 → OutOfReset s m → run m s = .next t → t.phase = .assemble ∧ t.i.toNat = m) ∧
    (OutOfReset s (f.2 + 1) →
      ∃ t, run (f.2 + 1) s = .next t ∧ t.phase = .idle ∧ t.result = f.1.result ∧ t.fb = f.1.frame ∧
        t.lasttime = s.tstart ∧ t.haveResult = true ∧ t.done = true)

/-- The cycle rules refine TXN from ACK_WAIT on (R490): run from the first evaluated tick, for as long as the transaction
has not ended, the line seen so far decides it exactly when the block does. If the function has no end yet the block is
still before ASSEMBLE; if it has one, the block completes with it in the cycle the function gives. -/
def Obligations.CycleRulesRefineTheFunction : Prop :=
  ∀ (n : Nat) (s t : State), Legal s → s.phase = .ackWait → s.sk = s.reldly → s.aw = 0#16 → OutOfReset s n →
    run n s = .next t → (∀ m u, m < n → run m s = .next u → u.phase ≠ .idle) →
    match txn s.budget.toNat s.acklim.toNat s.literal (lineOf n s) with
    | none => t.phase = .ackWait ∨ inWindow t.phase = true
    | some e => (e.outcome.result.kind = .handshakeTimeout → e.assembleCycles = 0) ∧ ShowsEnd s n e s.tstart t

/-- The cycle rules refine TXN from the acceptance edge (R490): `s` is any legal state in whose cycle a READ is accepted,
`a` the state after it, and the run goes on for as long as the transaction has not ended. The configuration is the one that
stood at the acceptance, and the line has no tick of the phases before ACK_WAIT (R480). While TXN has no end the block
completes nothing; when it has one, the block completes with it, in the cycle the function gives and not before. -/
def Obligations.AcceptedTransactionRefinesTheFunction : Prop :=
  ∀ (n : Nat) (s a t : State) (w : AccessWord), Legal s → s.phase = .idle → (nextInput s).rstN = true →
    accessOf (nextInput s) = some w → decode w = .wrCmdRead → limited s = false → step s = .next a →
    OutOfReset a n → run n a = .next t → (∀ m u, m < n → run m a = .next u → u.phase ≠ .idle) →
    match txn s.budget.toNat s.acklim.toNat s.literal (lineOf n a) with
    | none => t.phase ≠ .idle ∧ t.phase ≠ .assemble ∧ t.result = s.result ∧ t.lasttime = s.lasttime
    | some e => ShowsEnd a n e s.nowms t

/-- TXN decides every line that is long enough: with a bound L within L + 82·B ticks and 40 cycles, and in any case within
82·B ticks of a low tick. Without a bound and without a low tick it never decides (R488). -/
def Obligations.TransactionDecides : Prop :=
  ∀ (B L : Nat) (lit : Bool) (x : List Level), 2 ≤ B →
    (L ≠ 0 → L + 82 * B ≤ x.length →
      ∃ e, txn B L lit x = some e ∧ e.tick < L + 82 * B ∧ e.assembleCycles ≤ 40) ∧
    (∀ a, x[a]? = some false → a + 82 * B ≤ x.length → ∃ e, txn B L lit x = some e) ∧
    (L = 0 → (∀ l ∈ x, l = true) → txn B L lit x = none)

/-- TXN depends on the line only up to the outcome's tick: a line that agrees with this one up to there has the same
outcome, at the same tick (R489). -/
def Obligations.TransactionUsesOnlyItsPrefix : Prop :=
  ∀ (B L : Nat) (lit : Bool) (x : List Level) (e : TxnEnd), 2 ≤ B → txn B L lit x = some e →
    e.tick < x.length ∧
    ∀ y : List Level, y.take (e.tick + 1) = x.take (e.tick + 1) → txn B L lit y = some e

/-- Corrected mode: with a TIMEOUT among the samples, the outcome is PULSE_TIMEOUT at the first bit whose pair holds one,
and the frame is the fold of the bits before it; with none, the frame is the fold of all 40 classified bits and its
checksum decides (R406, R413, R416). -/
def Obligations.CorrectedModeReportsTheFirstTimeout : Prop :=
  ∀ samp : Nat → PulseResult,
    (∀ m, m < 40 → ((samp (2 * m)).isTimeout || (samp (2 * m + 1)).isTimeout) = true →
      (∀ k, k < 2 * m → (samp k).isTimeout = false) →
      (assembly false samp).2 = m ∧ (assembly false samp).1.frame = foldedBits samp m ∧
      (assembly false samp).1.result = ⟨.pulseTimeout, BitVec.ofNat 6 m, !(samp (2 * m)).isTimeout, 0#2⟩) ∧
    ((∀ k, k < 80 → (samp k).isTimeout = false) →
      (assembly false samp).2 = 39 ∧ (assembly false samp).1.frame = foldedBits samp 40 ∧
      (assembly false samp).1.result =
        ⟨if frameOk (foldedBits samp 40) then .success else .checksumMismatch, 40#6, false, 0#2⟩)

/-- Literal mode: if bit 0 is 0 the transaction ends SUCCESS after one bit with an all-zero frame; if it is 1, no SUCCESS
comes before nine bits (R415). -/
def Obligations.LiteralModeAcceptsEarly : Prop :=
  ∀ samp : Nat → PulseResult, (samp 0).isTimeout = false → (samp 1).isTimeout = false →
    ((samp 1).cnt.toNat ≤ (samp 0).cnt.toNat →
      assembly true samp = (⟨⟨.success, 1#6, false, 0#2⟩, zeroFrame⟩, 0)) ∧
    ((samp 0).cnt.toNat < (samp 1).cnt.toNat → (assembly true samp).1.result.kind = .success →
      9 ≤ (assembly true samp).1.result.bits.toNat)

/-- The first received bit of a byte is its most significant bit: after the 40 folds, bit 7 - m of FB[k] is bit 8k + m of
the frame (R410, R411). -/
def Obligations.BytesAreMsbFirst : Prop :=
  ∀ (samp : Vector Sample 80) (k m : Nat) (_ : k < 5), m < 8 →
    ((frameAfter samp 40)[k]).getLsbD (7 - m) =
      decide ((sampleAt samp (2 * (8 * k + m))).cnt.toNat < (sampleAt samp (2 * (8 * k + m) + 1)).cnt.toNat)

/-! ## The host's side -/

/-- getHumidity is (FB[0], FB[1]) and GET_TEMPERATURE (FB[2], FB[3]), each from one read of DATA0 (R162, R425). -/
def Obligations.AccessorsReadTheFrame : Prop :=
  ∀ (s : State), ∃ v : Word, exec (decode (rd .data0)) s = .next { s with rdata := some v } ∧
    humidityOf v = (s.fb[0], s.fb[1]) ∧ temperatureOf v = (s.fb[2], s.fb[3])

/-- A host program takes one cycle for an access, repeats a POLL until the field read in the cycle has its value, and
waits for `irq_o` in cycles without an access until it is 1; the block takes its step on the inputs this makes. Masking by
the platform never delays the completion interrupt (R26, R161, R520, R521). That the host goes on in the cycle after
the one that shows the word or the level is the model's choice (notes/assumptions/9.md). -/
def Obligations.HostProgramRunsCycleByCycle : Prop :=
  ∀ (env : EnvInput) (ops : List HostOp) (s : State), Legal s → env.rstN = true →
    let next (op : HostOp) : State := after { s with inputs := hostInput env (some op) :: s.inputs }
    (∀ w, accessOf (hostInput env (some (.access w))) = some w ∧
      hostCycle env (.access w :: ops) s = .next (ops, next (.access w))) ∧
    (∀ w mask value, weOf w = false → accessOf (hostInput env (some (.poll w mask value))) = some w ∧
      hostCycle env (.poll w mask value :: ops) s =
        .next (if prdata s (addrOf w) &&& mask = value then ops else .poll w mask value :: ops,
          next (.poll w mask value))) ∧
    accessOf (hostInput env (some .awaitIrq)) = none ∧
    hostCycle env (.awaitIrq :: ops) s =
      .next (if s.done = true ∧ s.doneIe = true then ops else .awaitIrq :: ops, next .awaitIrq)

/-- The expansions of R162 are the access words of R140 and R161. -/
def Obligations.PseudoInstructionWords : Prop :=
  expand .readSensor = [.access 0x10400000001#41, .poll 0x00800000000#41 0x2#32 0x2#32, .access 0x00C00000000#41,
    .access 0x01000000000#41, .access 0x01400000000#41] ∧
  expand .getHumidity = [.access 0x01000000000#41] ∧ expand .getTemperature = [.access 0x01000000000#41] ∧
  expand .clrDone = [.access 0x10800000002#41] ∧ expand .clrFlags = [.access 0x10800000032#41] ∧
  expand .nop = [.access 0x10400000000#41]
end

