-- ==== Sys2Proof/Laws/Encoding.lean ====
section
/-! SUPPORT. The fields of an access word that was built from its fields, and decoding by fields. -/

namespace Sys2Proof

/-- WE of a word built from its fields. -/
theorem weOf_append (we : Bool) (slot : Slot) (low : BitVec 2) (d : Word) :
    weOf (BitVec.ofBool we ++ slot ++ low ++ d) = we := by
  simp only [weOf, BitVec.getLsbD_append]
  simp

/-- ADDR[7:2] of a word built from its fields. -/
theorem slotOf_append (we : Bool) (slot : Slot) (low : BitVec 2) (d : Word) :
    slotOf (BitVec.ofBool we ++ slot ++ low ++ d) = slot := by
  apply BitVec.eq_of_getLsbD_eq
  intro i hi
  simp only [slotOf, BitVec.getLsbD_extractLsb', BitVec.getLsbD_append]
  have h : i < 6 := hi
  interval_cases i <;> simp

/-- WDATA of a word built from its fields. -/
theorem wdataOf_append (we : Bool) (slot : Slot) (low : BitVec 2) (d : Word) :
    wdataOf (BitVec.ofBool we ++ slot ++ low ++ d) = d := by
  apply BitVec.eq_of_getLsbD_eq
  intro i hi
  simp only [wdataOf, BitVec.getLsbD_extractLsb', BitVec.getLsbD_append]
  have h : i < 32 := hi
  simp [h]

/-- A word decodes by its fields; ADDR[1:0] is none of them. -/
theorem decode_append (we : Bool) (slot : Slot) (low : BitVec 2) (d : Word) :
    decode (BitVec.ofBool we ++ slot ++ low ++ d) = if we then decodeWrite slot d else decodeRead slot := by
  rw [decode, weOf_append, slotOf_append, wdataOf_append]

theorem decode_readWord (slot : Slot) : decode (readWord slot) = decodeRead slot := by
  rw [readWord, accessWord, decode_append, if_neg (by decide)]

theorem decode_writeWord (slot : Slot) (d : Word) : decode (writeWord slot d) = decodeWrite slot d := by
  rw [writeWord, accessWord, decode_append, if_pos rfl]

end Sys2Proof
end

