-- ==== Sys2Proof/Laws/State.lean ====
section
/-! SUPPORT. What each named update of the state leaves in each field: one lemma per field per update, true by
definition, so that no proof unfolds a record update. -/

namespace Sys2Proof.Machine

/-! ## `setOvr`: `ovr <- 1` (R505) -/

@[simp] theorem setOvr_phase (s : State) : (setOvr s).phase = s.phase := rfl
@[simp] theorem setOvr_j (s : State) : (setOvr s).j = s.j := rfl
@[simp] theorem setOvr_i (s : State) : (setOvr s).i = s.i := rfl
@[simp] theorem setOvr_literal (s : State) : (setOvr s).literal = s.literal := rfl
@[simp] theorem setOvr_doneIe (s : State) : (setOvr s).doneIe = s.doneIe := rfl
@[simp] theorem setOvr_budget (s : State) : (setOvr s).budget = s.budget := rfl
@[simp] theorem setOvr_sdiv (s : State) : (setOvr s).sdiv = s.sdiv := rfl
@[simp] theorem setOvr_minint (s : State) : (setOvr s).minint = s.minint := rfl
@[simp] theorem setOvr_startlow (s : State) : (setOvr s).startlow = s.startlow := rfl
@[simp] theorem setOvr_settle (s : State) : (setOvr s).settle = s.settle := rfl
@[simp] theorem setOvr_acklim (s : State) : (setOvr s).acklim = s.acklim := rfl
@[simp] theorem setOvr_reldly (s : State) : (setOvr s).reldly = s.reldly := rfl
@[simp] theorem setOvr_done (s : State) : (setOvr s).done = s.done := rfl
@[simp] theorem setOvr_cached (s : State) : (setOvr s).cached = s.cached := rfl
@[simp] theorem setOvr_ovr (s : State) : (setOvr s).ovr = true := rfl
@[simp] theorem setOvr_ill (s : State) : (setOvr s).ill = s.ill := rfl
@[simp] theorem setOvr_critQ (s : State) : (setOvr s).critQ = s.critQ := rfl
@[simp] theorem setOvr_haveResult (s : State) : (setOvr s).haveResult = s.haveResult := rfl
@[simp] theorem setOvr_result (s : State) : (setOvr s).result = s.result := rfl
@[simp] theorem setOvr_fb (s : State) : (setOvr s).fb = s.fb := rfl
@[simp] theorem setOvr_lasttime (s : State) : (setOvr s).lasttime = s.lasttime := rfl
@[simp] theorem setOvr_nowms (s : State) : (setOvr s).nowms = s.nowms := rfl
@[simp] theorem setOvr_tstart (s : State) : (setOvr s).tstart = s.tstart := rfl
@[simp] theorem setOvr_samp (s : State) : (setOvr s).samp = s.samp := rfl
@[simp] theorem setOvr_presc (s : State) : (setOvr s).presc = s.presc := rfl
@[simp] theorem setOvr_sync1 (s : State) : (setOvr s).sync1 = s.sync1 := rfl
@[simp] theorem setOvr_sync2 (s : State) : (setOvr s).sync2 = s.sync2 := rfl
@[simp] theorem setOvr_wcnt (s : State) : (setOvr s).wcnt = s.wcnt := rfl
@[simp] theorem setOvr_rel (s : State) : (setOvr s).rel = s.rel := rfl
@[simp] theorem setOvr_sk (s : State) : (setOvr s).sk = s.sk := rfl
@[simp] theorem setOvr_aw (s : State) : (setOvr s).aw = s.aw := rfl
@[simp] theorem setOvr_c (s : State) : (setOvr s).c = s.c := rfl
@[simp] theorem setOvr_rdata (s : State) : (setOvr s).rdata = s.rdata := rfl
@[simp] theorem setOvr_inputs (s : State) : (setOvr s).inputs = s.inputs := rfl
@[simp] theorem setOvr_cycle (s : State) : (setOvr s).cycle = s.cycle := rfl

/-! ## `setIll`: `ill <- 1` (R506) -/

@[simp] theorem setIll_phase (s : State) : (setIll s).phase = s.phase := rfl
@[simp] theorem setIll_j (s : State) : (setIll s).j = s.j := rfl
@[simp] theorem setIll_i (s : State) : (setIll s).i = s.i := rfl
@[simp] theorem setIll_literal (s : State) : (setIll s).literal = s.literal := rfl
@[simp] theorem setIll_doneIe (s : State) : (setIll s).doneIe = s.doneIe := rfl
@[simp] theorem setIll_budget (s : State) : (setIll s).budget = s.budget := rfl
@[simp] theorem setIll_sdiv (s : State) : (setIll s).sdiv = s.sdiv := rfl
@[simp] theorem setIll_minint (s : State) : (setIll s).minint = s.minint := rfl
@[simp] theorem setIll_startlow (s : State) : (setIll s).startlow = s.startlow := rfl
@[simp] theorem setIll_settle (s : State) : (setIll s).settle = s.settle := rfl
@[simp] theorem setIll_acklim (s : State) : (setIll s).acklim = s.acklim := rfl
@[simp] theorem setIll_reldly (s : State) : (setIll s).reldly = s.reldly := rfl
@[simp] theorem setIll_done (s : State) : (setIll s).done = s.done := rfl
@[simp] theorem setIll_cached (s : State) : (setIll s).cached = s.cached := rfl
@[simp] theorem setIll_ovr (s : State) : (setIll s).ovr = s.ovr := rfl
@[simp] theorem setIll_ill (s : State) : (setIll s).ill = true := rfl
@[simp] theorem setIll_critQ (s : State) : (setIll s).critQ = s.critQ := rfl
@[simp] theorem setIll_haveResult (s : State) : (setIll s).haveResult = s.haveResult := rfl
@[simp] theorem setIll_result (s : State) : (setIll s).result = s.result := rfl
@[simp] theorem setIll_fb (s : State) : (setIll s).fb = s.fb := rfl
@[simp] theorem setIll_lasttime (s : State) : (setIll s).lasttime = s.lasttime := rfl
@[simp] theorem setIll_nowms (s : State) : (setIll s).nowms = s.nowms := rfl
@[simp] theorem setIll_tstart (s : State) : (setIll s).tstart = s.tstart := rfl
@[simp] theorem setIll_samp (s : State) : (setIll s).samp = s.samp := rfl
@[simp] theorem setIll_presc (s : State) : (setIll s).presc = s.presc := rfl
@[simp] theorem setIll_sync1 (s : State) : (setIll s).sync1 = s.sync1 := rfl
@[simp] theorem setIll_sync2 (s : State) : (setIll s).sync2 = s.sync2 := rfl
@[simp] theorem setIll_wcnt (s : State) : (setIll s).wcnt = s.wcnt := rfl
@[simp] theorem setIll_rel (s : State) : (setIll s).rel = s.rel := rfl
@[simp] theorem setIll_sk (s : State) : (setIll s).sk = s.sk := rfl
@[simp] theorem setIll_aw (s : State) : (setIll s).aw = s.aw := rfl
@[simp] theorem setIll_c (s : State) : (setIll s).c = s.c := rfl
@[simp] theorem setIll_rdata (s : State) : (setIll s).rdata = s.rdata := rfl
@[simp] theorem setIll_inputs (s : State) : (setIll s).inputs = s.inputs := rfl
@[simp] theorem setIll_cycle (s : State) : (setIll s).cycle = s.cycle := rfl

/-! ## `clearFlags`: W1C (R209) -/

@[simp] theorem clearFlags_phase (a b c : Bool) (s : State) : (clearFlags a b c s).phase = s.phase := rfl
@[simp] theorem clearFlags_j (a b c : Bool) (s : State) : (clearFlags a b c s).j = s.j := rfl
@[simp] theorem clearFlags_i (a b c : Bool) (s : State) : (clearFlags a b c s).i = s.i := rfl
@[simp] theorem clearFlags_literal (a b c : Bool) (s : State) : (clearFlags a b c s).literal = s.literal := rfl
@[simp] theorem clearFlags_doneIe (a b c : Bool) (s : State) : (clearFlags a b c s).doneIe = s.doneIe := rfl
@[simp] theorem clearFlags_budget (a b c : Bool) (s : State) : (clearFlags a b c s).budget = s.budget := rfl
@[simp] theorem clearFlags_sdiv (a b c : Bool) (s : State) : (clearFlags a b c s).sdiv = s.sdiv := rfl
@[simp] theorem clearFlags_minint (a b c : Bool) (s : State) : (clearFlags a b c s).minint = s.minint := rfl
@[simp] theorem clearFlags_startlow (a b c : Bool) (s : State) : (clearFlags a b c s).startlow = s.startlow := rfl
@[simp] theorem clearFlags_settle (a b c : Bool) (s : State) : (clearFlags a b c s).settle = s.settle := rfl
@[simp] theorem clearFlags_acklim (a b c : Bool) (s : State) : (clearFlags a b c s).acklim = s.acklim := rfl
@[simp] theorem clearFlags_reldly (a b c : Bool) (s : State) : (clearFlags a b c s).reldly = s.reldly := rfl
@[simp] theorem clearFlags_done (a b c : Bool) (s : State) : (clearFlags a b c s).done = (s.done && !a) := rfl
@[simp] theorem clearFlags_cached (a b c : Bool) (s : State) : (clearFlags a b c s).cached = s.cached := rfl
@[simp] theorem clearFlags_ovr (a b c : Bool) (s : State) : (clearFlags a b c s).ovr = (s.ovr && !b) := rfl
@[simp] theorem clearFlags_ill (a b c : Bool) (s : State) : (clearFlags a b c s).ill = (s.ill && !c) := rfl
@[simp] theorem clearFlags_critQ (a b c : Bool) (s : State) : (clearFlags a b c s).critQ = s.critQ := rfl
@[simp] theorem clearFlags_haveResult (a b c : Bool) (s : State) : (clearFlags a b c s).haveResult = s.haveResult := rfl
@[simp] theorem clearFlags_result (a b c : Bool) (s : State) : (clearFlags a b c s).result = s.result := rfl
@[simp] theorem clearFlags_fb (a b c : Bool) (s : State) : (clearFlags a b c s).fb = s.fb := rfl
@[simp] theorem clearFlags_lasttime (a b c : Bool) (s : State) : (clearFlags a b c s).lasttime = s.lasttime := rfl
@[simp] theorem clearFlags_nowms (a b c : Bool) (s : State) : (clearFlags a b c s).nowms = s.nowms := rfl
@[simp] theorem clearFlags_tstart (a b c : Bool) (s : State) : (clearFlags a b c s).tstart = s.tstart := rfl
@[simp] theorem clearFlags_samp (a b c : Bool) (s : State) : (clearFlags a b c s).samp = s.samp := rfl
@[simp] theorem clearFlags_presc (a b c : Bool) (s : State) : (clearFlags a b c s).presc = s.presc := rfl
@[simp] theorem clearFlags_sync1 (a b c : Bool) (s : State) : (clearFlags a b c s).sync1 = s.sync1 := rfl
@[simp] theorem clearFlags_sync2 (a b c : Bool) (s : State) : (clearFlags a b c s).sync2 = s.sync2 := rfl
@[simp] theorem clearFlags_wcnt (a b c : Bool) (s : State) : (clearFlags a b c s).wcnt = s.wcnt := rfl
@[simp] theorem clearFlags_rel (a b c : Bool) (s : State) : (clearFlags a b c s).rel = s.rel := rfl
@[simp] theorem clearFlags_sk (a b c : Bool) (s : State) : (clearFlags a b c s).sk = s.sk := rfl
@[simp] theorem clearFlags_aw (a b c : Bool) (s : State) : (clearFlags a b c s).aw = s.aw := rfl
@[simp] theorem clearFlags_c (a b c : Bool) (s : State) : (clearFlags a b c s).c = s.c := rfl
@[simp] theorem clearFlags_rdata (a b c : Bool) (s : State) : (clearFlags a b c s).rdata = s.rdata := rfl
@[simp] theorem clearFlags_inputs (a b c : Bool) (s : State) : (clearFlags a b c s).inputs = s.inputs := rfl
@[simp] theorem clearFlags_cycle (a b c : Bool) (s : State) : (clearFlags a b c s).cycle = s.cycle := rfl

/-! ## `cachedReturn`: the cached return (R455) -/

@[simp] theorem cachedReturn_phase (s : State) : (cachedReturn s).phase = s.phase := rfl
@[simp] theorem cachedReturn_j (s : State) : (cachedReturn s).j = s.j := rfl
@[simp] theorem cachedReturn_i (s : State) : (cachedReturn s).i = s.i := rfl
@[simp] theorem cachedReturn_literal (s : State) : (cachedReturn s).literal = s.literal := rfl
@[simp] theorem cachedReturn_doneIe (s : State) : (cachedReturn s).doneIe = s.doneIe := rfl
@[simp] theorem cachedReturn_budget (s : State) : (cachedReturn s).budget = s.budget := rfl
@[simp] theorem cachedReturn_sdiv (s : State) : (cachedReturn s).sdiv = s.sdiv := rfl
@[simp] theorem cachedReturn_minint (s : State) : (cachedReturn s).minint = s.minint := rfl
@[simp] theorem cachedReturn_startlow (s : State) : (cachedReturn s).startlow = s.startlow := rfl
@[simp] theorem cachedReturn_settle (s : State) : (cachedReturn s).settle = s.settle := rfl
@[simp] theorem cachedReturn_acklim (s : State) : (cachedReturn s).acklim = s.acklim := rfl
@[simp] theorem cachedReturn_reldly (s : State) : (cachedReturn s).reldly = s.reldly := rfl
@[simp] theorem cachedReturn_done (s : State) : (cachedReturn s).done = true := rfl
@[simp] theorem cachedReturn_cached (s : State) : (cachedReturn s).cached = true := rfl
@[simp] theorem cachedReturn_ovr (s : State) : (cachedReturn s).ovr = s.ovr := rfl
@[simp] theorem cachedReturn_ill (s : State) : (cachedReturn s).ill = s.ill := rfl
@[simp] theorem cachedReturn_critQ (s : State) : (cachedReturn s).critQ = s.critQ := rfl
@[simp] theorem cachedReturn_haveResult (s : State) : (cachedReturn s).haveResult = s.haveResult := rfl
@[simp] theorem cachedReturn_result (s : State) : (cachedReturn s).result = s.result := rfl
@[simp] theorem cachedReturn_fb (s : State) : (cachedReturn s).fb = s.fb := rfl
@[simp] theorem cachedReturn_lasttime (s : State) : (cachedReturn s).lasttime = s.lasttime := rfl
@[simp] theorem cachedReturn_nowms (s : State) : (cachedReturn s).nowms = s.nowms := rfl
@[simp] theorem cachedReturn_tstart (s : State) : (cachedReturn s).tstart = s.tstart := rfl
@[simp] theorem cachedReturn_samp (s : State) : (cachedReturn s).samp = s.samp := rfl
@[simp] theorem cachedReturn_presc (s : State) : (cachedReturn s).presc = s.presc := rfl
@[simp] theorem cachedReturn_sync1 (s : State) : (cachedReturn s).sync1 = s.sync1 := rfl
@[simp] theorem cachedReturn_sync2 (s : State) : (cachedReturn s).sync2 = s.sync2 := rfl
@[simp] theorem cachedReturn_wcnt (s : State) : (cachedReturn s).wcnt = s.wcnt := rfl
@[simp] theorem cachedReturn_rel (s : State) : (cachedReturn s).rel = s.rel := rfl
@[simp] theorem cachedReturn_sk (s : State) : (cachedReturn s).sk = s.sk := rfl
@[simp] theorem cachedReturn_aw (s : State) : (cachedReturn s).aw = s.aw := rfl
@[simp] theorem cachedReturn_c (s : State) : (cachedReturn s).c = s.c := rfl
@[simp] theorem cachedReturn_rdata (s : State) : (cachedReturn s).rdata = s.rdata := rfl
@[simp] theorem cachedReturn_inputs (s : State) : (cachedReturn s).inputs = s.inputs := rfl
@[simp] theorem cachedReturn_cycle (s : State) : (cachedReturn s).cycle = s.cycle := rfl

/-! ## `accept`: acceptance (R300) -/

@[simp] theorem accept_phase (s : State) : (accept s).phase = firstPhase s := rfl
@[simp] theorem accept_j (s : State) : (accept s).j = 0#7 := rfl
@[simp] theorem accept_i (s : State) : (accept s).i = 0#6 := rfl
@[simp] theorem accept_literal (s : State) : (accept s).literal = s.literal := rfl
@[simp] theorem accept_doneIe (s : State) : (accept s).doneIe = s.doneIe := rfl
@[simp] theorem accept_budget (s : State) : (accept s).budget = s.budget := rfl
@[simp] theorem accept_sdiv (s : State) : (accept s).sdiv = s.sdiv := rfl
@[simp] theorem accept_minint (s : State) : (accept s).minint = s.minint := rfl
@[simp] theorem accept_startlow (s : State) : (accept s).startlow = s.startlow := rfl
@[simp] theorem accept_settle (s : State) : (accept s).settle = s.settle := rfl
@[simp] theorem accept_acklim (s : State) : (accept s).acklim = s.acklim := rfl
@[simp] theorem accept_reldly (s : State) : (accept s).reldly = s.reldly := rfl
@[simp] theorem accept_done (s : State) : (accept s).done = false := rfl
@[simp] theorem accept_cached (s : State) : (accept s).cached = false := rfl
@[simp] theorem accept_ovr (s : State) : (accept s).ovr = s.ovr := rfl
@[simp] theorem accept_ill (s : State) : (accept s).ill = s.ill := rfl
@[simp] theorem accept_critQ (s : State) : (accept s).critQ = s.critQ := rfl
@[simp] theorem accept_haveResult (s : State) : (accept s).haveResult = s.haveResult := rfl
@[simp] theorem accept_result (s : State) : (accept s).result = s.result := rfl
@[simp] theorem accept_fb (s : State) : (accept s).fb = zeroFrame := rfl
@[simp] theorem accept_lasttime (s : State) : (accept s).lasttime = s.lasttime := rfl
@[simp] theorem accept_nowms (s : State) : (accept s).nowms = s.nowms := rfl
@[simp] theorem accept_tstart (s : State) : (accept s).tstart = s.nowms := rfl
@[simp] theorem accept_samp (s : State) : (accept s).samp = s.samp := rfl
@[simp] theorem accept_presc (s : State) : (accept s).presc = s.presc := rfl
@[simp] theorem accept_sync1 (s : State) : (accept s).sync1 = s.sync1 := rfl
@[simp] theorem accept_sync2 (s : State) : (accept s).sync2 = s.sync2 := rfl
@[simp] theorem accept_wcnt (s : State) : (accept s).wcnt = 0#9 := rfl
@[simp] theorem accept_rel (s : State) : (accept s).rel = false := rfl
@[simp] theorem accept_sk (s : State) : (accept s).sk = 0#8 := rfl
@[simp] theorem accept_aw (s : State) : (accept s).aw = 0#16 := rfl
@[simp] theorem accept_c (s : State) : (accept s).c = 0#16 := rfl
@[simp] theorem accept_rdata (s : State) : (accept s).rdata = s.rdata := rfl
@[simp] theorem accept_inputs (s : State) : (accept s).inputs = s.inputs := rfl
@[simp] theorem accept_cycle (s : State) : (accept s).cycle = s.cycle := rfl

/-! ## `beginCycle`: taking a cycle's inputs -/

@[simp] theorem beginCycle_phase (s : State) : (beginCycle s).phase = s.phase := rfl
@[simp] theorem beginCycle_j (s : State) : (beginCycle s).j = s.j := rfl
@[simp] theorem beginCycle_i (s : State) : (beginCycle s).i = s.i := rfl
@[simp] theorem beginCycle_literal (s : State) : (beginCycle s).literal = s.literal := rfl
@[simp] theorem beginCycle_doneIe (s : State) : (beginCycle s).doneIe = s.doneIe := rfl
@[simp] theorem beginCycle_budget (s : State) : (beginCycle s).budget = s.budget := rfl
@[simp] theorem beginCycle_sdiv (s : State) : (beginCycle s).sdiv = s.sdiv := rfl
@[simp] theorem beginCycle_minint (s : State) : (beginCycle s).minint = s.minint := rfl
@[simp] theorem beginCycle_startlow (s : State) : (beginCycle s).startlow = s.startlow := rfl
@[simp] theorem beginCycle_settle (s : State) : (beginCycle s).settle = s.settle := rfl
@[simp] theorem beginCycle_acklim (s : State) : (beginCycle s).acklim = s.acklim := rfl
@[simp] theorem beginCycle_reldly (s : State) : (beginCycle s).reldly = s.reldly := rfl
@[simp] theorem beginCycle_done (s : State) : (beginCycle s).done = s.done := rfl
@[simp] theorem beginCycle_cached (s : State) : (beginCycle s).cached = s.cached := rfl
@[simp] theorem beginCycle_ovr (s : State) : (beginCycle s).ovr = s.ovr := rfl
@[simp] theorem beginCycle_ill (s : State) : (beginCycle s).ill = s.ill := rfl
@[simp] theorem beginCycle_critQ (s : State) : (beginCycle s).critQ = s.critQ := rfl
@[simp] theorem beginCycle_haveResult (s : State) : (beginCycle s).haveResult = s.haveResult := rfl
@[simp] theorem beginCycle_result (s : State) : (beginCycle s).result = s.result := rfl
@[simp] theorem beginCycle_fb (s : State) : (beginCycle s).fb = s.fb := rfl
@[simp] theorem beginCycle_lasttime (s : State) : (beginCycle s).lasttime = s.lasttime := rfl
@[simp] theorem beginCycle_nowms (s : State) : (beginCycle s).nowms = s.nowms := rfl
@[simp] theorem beginCycle_tstart (s : State) : (beginCycle s).tstart = s.tstart := rfl
@[simp] theorem beginCycle_samp (s : State) : (beginCycle s).samp = s.samp := rfl
@[simp] theorem beginCycle_presc (s : State) : (beginCycle s).presc = s.presc := rfl
@[simp] theorem beginCycle_sync1 (s : State) : (beginCycle s).sync1 = s.sync1 := rfl
@[simp] theorem beginCycle_sync2 (s : State) : (beginCycle s).sync2 = s.sync2 := rfl
@[simp] theorem beginCycle_wcnt (s : State) : (beginCycle s).wcnt = s.wcnt := rfl
@[simp] theorem beginCycle_rel (s : State) : (beginCycle s).rel = s.rel := rfl
@[simp] theorem beginCycle_sk (s : State) : (beginCycle s).sk = s.sk := rfl
@[simp] theorem beginCycle_aw (s : State) : (beginCycle s).aw = s.aw := rfl
@[simp] theorem beginCycle_c (s : State) : (beginCycle s).c = s.c := rfl
@[simp] theorem beginCycle_rdata (s : State) : (beginCycle s).rdata = none := rfl
@[simp] theorem beginCycle_inputs (s : State) : (beginCycle s).inputs = s.inputs.tail := rfl
@[simp] theorem beginCycle_cycle (s : State) : (beginCycle s).cycle = s.cycle + 1 := rfl

/-! ## `freeRun`: the free-running registers (R350, R352, R450) -/

@[simp] theorem freeRun_phase (inp : Input) (s h : State) : (freeRun inp s h).phase = h.phase := rfl
@[simp] theorem freeRun_j (inp : Input) (s h : State) : (freeRun inp s h).j = h.j := rfl
@[simp] theorem freeRun_i (inp : Input) (s h : State) : (freeRun inp s h).i = h.i := rfl
@[simp] theorem freeRun_literal (inp : Input) (s h : State) : (freeRun inp s h).literal = h.literal := rfl
@[simp] theorem freeRun_doneIe (inp : Input) (s h : State) : (freeRun inp s h).doneIe = h.doneIe := rfl
@[simp] theorem freeRun_budget (inp : Input) (s h : State) : (freeRun inp s h).budget = h.budget := rfl
@[simp] theorem freeRun_sdiv (inp : Input) (s h : State) : (freeRun inp s h).sdiv = h.sdiv := rfl
@[simp] theorem freeRun_minint (inp : Input) (s h : State) : (freeRun inp s h).minint = h.minint := rfl
@[simp] theorem freeRun_startlow (inp : Input) (s h : State) : (freeRun inp s h).startlow = h.startlow := rfl
@[simp] theorem freeRun_settle (inp : Input) (s h : State) : (freeRun inp s h).settle = h.settle := rfl
@[simp] theorem freeRun_acklim (inp : Input) (s h : State) : (freeRun inp s h).acklim = h.acklim := rfl
@[simp] theorem freeRun_reldly (inp : Input) (s h : State) : (freeRun inp s h).reldly = h.reldly := rfl
@[simp] theorem freeRun_done (inp : Input) (s h : State) : (freeRun inp s h).done = h.done := rfl
@[simp] theorem freeRun_cached (inp : Input) (s h : State) : (freeRun inp s h).cached = h.cached := rfl
@[simp] theorem freeRun_ovr (inp : Input) (s h : State) : (freeRun inp s h).ovr = h.ovr := rfl
@[simp] theorem freeRun_ill (inp : Input) (s h : State) : (freeRun inp s h).ill = h.ill := rfl
@[simp] theorem freeRun_critQ (inp : Input) (s h : State) : (freeRun inp s h).critQ = h.critQ := rfl
@[simp] theorem freeRun_haveResult (inp : Input) (s h : State) : (freeRun inp s h).haveResult = h.haveResult := rfl
@[simp] theorem freeRun_result (inp : Input) (s h : State) : (freeRun inp s h).result = h.result := rfl
@[simp] theorem freeRun_fb (inp : Input) (s h : State) : (freeRun inp s h).fb = h.fb := rfl
@[simp] theorem freeRun_lasttime (inp : Input) (s h : State) : (freeRun inp s h).lasttime = h.lasttime := rfl
@[simp] theorem freeRun_nowms (inp : Input) (s h : State) : (freeRun inp s h).nowms = if inp.tickMs then s.nowms + 1#32 else s.nowms := rfl
@[simp] theorem freeRun_tstart (inp : Input) (s h : State) : (freeRun inp s h).tstart = h.tstart := rfl
@[simp] theorem freeRun_samp (inp : Input) (s h : State) : (freeRun inp s h).samp = h.samp := rfl
@[simp] theorem freeRun_presc (inp : Input) (s h : State) : (freeRun inp s h).presc = if tickS s then 0#8 else s.presc + 1#8 := rfl
@[simp] theorem freeRun_sync1 (inp : Input) (s h : State) : (freeRun inp s h).sync1 = inp.pinI := rfl
@[simp] theorem freeRun_sync2 (inp : Input) (s h : State) : (freeRun inp s h).sync2 = s.sync1 := rfl
@[simp] theorem freeRun_wcnt (inp : Input) (s h : State) : (freeRun inp s h).wcnt = h.wcnt := rfl
@[simp] theorem freeRun_rel (inp : Input) (s h : State) : (freeRun inp s h).rel = h.rel := rfl
@[simp] theorem freeRun_sk (inp : Input) (s h : State) : (freeRun inp s h).sk = h.sk := rfl
@[simp] theorem freeRun_aw (inp : Input) (s h : State) : (freeRun inp s h).aw = h.aw := rfl
@[simp] theorem freeRun_c (inp : Input) (s h : State) : (freeRun inp s h).c = h.c := rfl
@[simp] theorem freeRun_rdata (inp : Input) (s h : State) : (freeRun inp s h).rdata = h.rdata := rfl
@[simp] theorem freeRun_inputs (inp : Input) (s h : State) : (freeRun inp s h).inputs = h.inputs := rfl
@[simp] theorem freeRun_cycle (inp : Input) (s h : State) : (freeRun inp s h).cycle = h.cycle := rfl

/-! ## `complete`: completion (R420) -/

@[simp] theorem complete_phase (k : Kind) (b : BitVec 6) (f : Bool) (p : BitVec 2) (s h : State) : (complete k b f p s h).phase = .idle := rfl
@[simp] theorem complete_j (k : Kind) (b : BitVec 6) (f : Bool) (p : BitVec 2) (s h : State) : (complete k b f p s h).j = h.j := rfl
@[simp] theorem complete_i (k : Kind) (b : BitVec 6) (f : Bool) (p : BitVec 2) (s h : State) : (complete k b f p s h).i = h.i := rfl
@[simp] theorem complete_literal (k : Kind) (b : BitVec 6) (f : Bool) (p : BitVec 2) (s h : State) : (complete k b f p s h).literal = h.literal := rfl
@[simp] theorem complete_doneIe (k : Kind) (b : BitVec 6) (f : Bool) (p : BitVec 2) (s h : State) : (complete k b f p s h).doneIe = h.doneIe := rfl
@[simp] theorem complete_budget (k : Kind) (b : BitVec 6) (f : Bool) (p : BitVec 2) (s h : State) : (complete k b f p s h).budget = h.budget := rfl
@[simp] theorem complete_sdiv (k : Kind) (b : BitVec 6) (f : Bool) (p : BitVec 2) (s h : State) : (complete k b f p s h).sdiv = h.sdiv := rfl
@[simp] theorem complete_minint (k : Kind) (b : BitVec 6) (f : Bool) (p : BitVec 2) (s h : State) : (complete k b f p s h).minint = h.minint := rfl
@[simp] theorem complete_startlow (k : Kind) (b : BitVec 6) (f : Bool) (p : BitVec 2) (s h : State) : (complete k b f p s h).startlow = h.startlow := rfl
@[simp] theorem complete_settle (k : Kind) (b : BitVec 6) (f : Bool) (p : BitVec 2) (s h : State) : (complete k b f p s h).settle = h.settle := rfl
@[simp] theorem complete_acklim (k : Kind) (b : BitVec 6) (f : Bool) (p : BitVec 2) (s h : State) : (complete k b f p s h).acklim = h.acklim := rfl
@[simp] theorem complete_reldly (k : Kind) (b : BitVec 6) (f : Bool) (p : BitVec 2) (s h : State) : (complete k b f p s h).reldly = h.reldly := rfl
@[simp] theorem complete_done (k : Kind) (b : BitVec 6) (f : Bool) (p : BitVec 2) (s h : State) : (complete k b f p s h).done = true := rfl
@[simp] theorem complete_cached (k : Kind) (b : BitVec 6) (f : Bool) (p : BitVec 2) (s h : State) : (complete k b f p s h).cached = h.cached := rfl
@[simp] theorem complete_ovr (k : Kind) (b : BitVec 6) (f : Bool) (p : BitVec 2) (s h : State) : (complete k b f p s h).ovr = h.ovr := rfl
@[simp] theorem complete_ill (k : Kind) (b : BitVec 6) (f : Bool) (p : BitVec 2) (s h : State) : (complete k b f p s h).ill = h.ill := rfl
@[simp] theorem complete_critQ (k : Kind) (b : BitVec 6) (f : Bool) (p : BitVec 2) (s h : State) : (complete k b f p s h).critQ = false := rfl
@[simp] theorem complete_haveResult (k : Kind) (b : BitVec 6) (f : Bool) (p : BitVec 2) (s h : State) : (complete k b f p s h).haveResult = true := rfl
@[simp] theorem complete_result (k : Kind) (b : BitVec 6) (f : Bool) (p : BitVec 2) (s h : State) : (complete k b f p s h).result = ⟨k, b, f, p⟩ := rfl
@[simp] theorem complete_fb (k : Kind) (b : BitVec 6) (f : Bool) (p : BitVec 2) (s h : State) : (complete k b f p s h).fb = h.fb := rfl
@[simp] theorem complete_lasttime (k : Kind) (b : BitVec 6) (f : Bool) (p : BitVec 2) (s h : State) : (complete k b f p s h).lasttime = s.tstart := rfl
@[simp] theorem complete_nowms (k : Kind) (b : BitVec 6) (f : Bool) (p : BitVec 2) (s h : State) : (complete k b f p s h).nowms = h.nowms := rfl
@[simp] theorem complete_tstart (k : Kind) (b : BitVec 6) (f : Bool) (p : BitVec 2) (s h : State) : (complete k b f p s h).tstart = h.tstart := rfl
@[simp] theorem complete_samp (k : Kind) (b : BitVec 6) (f : Bool) (p : BitVec 2) (s h : State) : (complete k b f p s h).samp = h.samp := rfl
@[simp] theorem complete_presc (k : Kind) (b : BitVec 6) (f : Bool) (p : BitVec 2) (s h : State) : (complete k b f p s h).presc = h.presc := rfl
@[simp] theorem complete_sync1 (k : Kind) (b : BitVec 6) (f : Bool) (p : BitVec 2) (s h : State) : (complete k b f p s h).sync1 = h.sync1 := rfl
@[simp] theorem complete_sync2 (k : Kind) (b : BitVec 6) (f : Bool) (p : BitVec 2) (s h : State) : (complete k b f p s h).sync2 = h.sync2 := rfl
@[simp] theorem complete_wcnt (k : Kind) (b : BitVec 6) (f : Bool) (p : BitVec 2) (s h : State) : (complete k b f p s h).wcnt = h.wcnt := rfl
@[simp] theorem complete_rel (k : Kind) (b : BitVec 6) (f : Bool) (p : BitVec 2) (s h : State) : (complete k b f p s h).rel = h.rel := rfl
@[simp] theorem complete_sk (k : Kind) (b : BitVec 6) (f : Bool) (p : BitVec 2) (s h : State) : (complete k b f p s h).sk = h.sk := rfl
@[simp] theorem complete_aw (k : Kind) (b : BitVec 6) (f : Bool) (p : BitVec 2) (s h : State) : (complete k b f p s h).aw = h.aw := rfl
@[simp] theorem complete_c (k : Kind) (b : BitVec 6) (f : Bool) (p : BitVec 2) (s h : State) : (complete k b f p s h).c = h.c := rfl
@[simp] theorem complete_rdata (k : Kind) (b : BitVec 6) (f : Bool) (p : BitVec 2) (s h : State) : (complete k b f p s h).rdata = h.rdata := rfl
@[simp] theorem complete_inputs (k : Kind) (b : BitVec 6) (f : Bool) (p : BitVec 2) (s h : State) : (complete k b f p s h).inputs = h.inputs := rfl
@[simp] theorem complete_cycle (k : Kind) (b : BitVec 6) (f : Bool) (p : BitVec 2) (s h : State) : (complete k b f p s h).cycle = h.cycle := rfl

/-! ## `resetEdge`: a reset edge (R560) -/

@[simp] theorem resetEdge_phase (s h : State) : (resetEdge s h).phase = State.reset.phase := rfl
@[simp] theorem resetEdge_j (s h : State) : (resetEdge s h).j = State.reset.j := rfl
@[simp] theorem resetEdge_i (s h : State) : (resetEdge s h).i = State.reset.i := rfl
@[simp] theorem resetEdge_literal (s h : State) : (resetEdge s h).literal = State.reset.literal := rfl
@[simp] theorem resetEdge_doneIe (s h : State) : (resetEdge s h).doneIe = State.reset.doneIe := rfl
@[simp] theorem resetEdge_budget (s h : State) : (resetEdge s h).budget = State.reset.budget := rfl
@[simp] theorem resetEdge_sdiv (s h : State) : (resetEdge s h).sdiv = State.reset.sdiv := rfl
@[simp] theorem resetEdge_minint (s h : State) : (resetEdge s h).minint = State.reset.minint := rfl
@[simp] theorem resetEdge_startlow (s h : State) : (resetEdge s h).startlow = State.reset.startlow := rfl
@[simp] theorem resetEdge_settle (s h : State) : (resetEdge s h).settle = State.reset.settle := rfl
@[simp] theorem resetEdge_acklim (s h : State) : (resetEdge s h).acklim = State.reset.acklim := rfl
@[simp] theorem resetEdge_reldly (s h : State) : (resetEdge s h).reldly = State.reset.reldly := rfl
@[simp] theorem resetEdge_done (s h : State) : (resetEdge s h).done = State.reset.done := rfl
@[simp] theorem resetEdge_cached (s h : State) : (resetEdge s h).cached = State.reset.cached := rfl
@[simp] theorem resetEdge_ovr (s h : State) : (resetEdge s h).ovr = State.reset.ovr := rfl
@[simp] theorem resetEdge_ill (s h : State) : (resetEdge s h).ill = State.reset.ill := rfl
@[simp] theorem resetEdge_critQ (s h : State) : (resetEdge s h).critQ = State.reset.critQ := rfl
@[simp] theorem resetEdge_haveResult (s h : State) : (resetEdge s h).haveResult = State.reset.haveResult := rfl
@[simp] theorem resetEdge_result (s h : State) : (resetEdge s h).result = State.reset.result := rfl
@[simp] theorem resetEdge_fb (s h : State) : (resetEdge s h).fb = State.reset.fb := rfl
@[simp] theorem resetEdge_lasttime (s h : State) : (resetEdge s h).lasttime = State.reset.lasttime := rfl
@[simp] theorem resetEdge_nowms (s h : State) : (resetEdge s h).nowms = State.reset.nowms := rfl
@[simp] theorem resetEdge_tstart (s h : State) : (resetEdge s h).tstart = State.reset.tstart := rfl
@[simp] theorem resetEdge_samp (s h : State) : (resetEdge s h).samp = s.samp := rfl
@[simp] theorem resetEdge_presc (s h : State) : (resetEdge s h).presc = State.reset.presc := rfl
@[simp] theorem resetEdge_sync1 (s h : State) : (resetEdge s h).sync1 = State.reset.sync1 := rfl
@[simp] theorem resetEdge_sync2 (s h : State) : (resetEdge s h).sync2 = State.reset.sync2 := rfl
@[simp] theorem resetEdge_wcnt (s h : State) : (resetEdge s h).wcnt = State.reset.wcnt := rfl
@[simp] theorem resetEdge_rel (s h : State) : (resetEdge s h).rel = State.reset.rel := rfl
@[simp] theorem resetEdge_sk (s h : State) : (resetEdge s h).sk = State.reset.sk := rfl
@[simp] theorem resetEdge_aw (s h : State) : (resetEdge s h).aw = State.reset.aw := rfl
@[simp] theorem resetEdge_c (s h : State) : (resetEdge s h).c = State.reset.c := rfl
@[simp] theorem resetEdge_rdata (s h : State) : (resetEdge s h).rdata = h.rdata := rfl
@[simp] theorem resetEdge_inputs (s h : State) : (resetEdge s h).inputs = s.inputs := rfl
@[simp] theorem resetEdge_cycle (s h : State) : (resetEdge s h).cycle = s.cycle := rfl

end Sys2Proof.Machine
end

