-- ==== Sys2Proof/Laws/Ops.lean ====
section
/-! SUPPORT. One lemma for each shared operation that says all it can do, and the inversion lemmas of an access and of a
step. -/

namespace Sys2Proof.Machine

/-! ## Accesses -/

/-- No access faults or is refused (R25). -/
theorem exec_next (i : Instr) (s : State) : ∃ h, exec i s = .next h := by
  cases i <;> exact ⟨_, rfl⟩

theorem lockedWrite_idle {t s : State} (h : s.phase = .idle) : lockedWrite t s = .next t := by
  simp [lockedWrite, h]

theorem lockedWrite_busy {t s : State} (h : s.phase ≠ .idle) : lockedWrite t s = .next (setOvr s) := by
  simp [lockedWrite, h]

/-- What WR_BUDGET stores is the larger of 2 and the written value (R217). -/
theorem legaliseBudget_toNat (b : Half) : (legaliseBudget b).toNat = max 2 b.toNat := by
  unfold legaliseBudget
  split
  · rename_i h
    simp only [BitVec.lt_def] at h
    simp at h ⊢
    omega
  · rename_i h
    simp only [BitVec.lt_def] at h
    simp at h
    omega

/-- BUDGET.B is never stored below 2 (R38). -/
theorem legaliseBudget_ge (b : Half) : 2 ≤ (legaliseBudget b).toNat := by
  rw [legaliseBudget_toNat]; omega

/-- The three outcomes of a READ (R205). -/
theorem readCommand_cases (s : State) :
    (s.phase ≠ .idle ∧ readCommand s = setOvr s) ∨
    (s.phase = .idle ∧ limited s = true ∧ readCommand s = cachedReturn s) ∨
    (s.phase = .idle ∧ limited s = false ∧ readCommand s = accept s) := by
  by_cases hp : s.phase = .idle
  · by_cases hl : limited s = true
    · exact .inr (.inl ⟨hp, hl, by simp [readCommand, hp, hl]⟩)
    · exact .inr (.inr ⟨hp, by simpa using hl, by simp [readCommand, hp, hl]⟩)
  · exact .inl ⟨hp, by simp [readCommand, hp]⟩

/-- The phases a transaction can start in (R300). -/
theorem firstPhase_cases (s : State) :
    (firstPhase s = .settle ∧ s.settle ≠ 0#8) ∨
    (firstPhase s = .start ∧ s.settle = 0#8 ∧ s.startlow ≠ 0#8) ∨
    (firstPhase s = .release ∧ s.settle = 0#8 ∧ s.startlow = 0#8) := by
  by_cases h1 : s.settle = 0#8
  · by_cases h2 : s.startlow = 0#8
    · exact .inr (.inr ⟨by simp [firstPhase, h1, h2], h1, h2⟩)
    · exact .inr (.inl ⟨by simp [firstPhase, h1, h2], h1, h2⟩)
  · exact .inl ⟨by simp [firstPhase, h1], h1⟩

/-- All an access can change while a transaction runs: DONE_IE, OVR, ILL, DONE downwards, and the read data. -/
theorem exec_busy {i : Instr} {s h : State} (hp : s.phase ≠ .idle) (he : exec i s = .next h) :
    ∃ doneIe done ovr ill rdata,
      h = { s with doneIe := doneIe, done := done, ovr := ovr, ill := ill, rdata := rdata } ∧
        (done = true → s.done = true) := by
  cases i <;>
    simp only [exec, execRdCtrl, execRdCmd, execRdStatus, execRdResult, execRdData0, execRdData1, execRdBudget,
      execRdSdiv, execRdMinint, execRdStartlow, execRdSettle, execRdAcklim, execRdReldly, execRdNowms, execRdLasttime,
      execRdUnmapped3C, execRdUnmapped40, execRdUnmapped80, execWrCtrl, execWrCmdNop, execWrCmdRead, execWrCmdRsvd2,
      execWrCmdRsvd4, execWrCmdRsvd8, execWrStatus, execWrResult, execWrData0, execWrData1, execWrBudget, execWrSdiv,
      execWrMinint, execWrStartlow, execWrSettle, execWrAcklim, execWrReldly, execWrNowms, execWrLasttime,
      execWrUnmapped3C, execWrUnmapped40, execWrUnmapped80, respond, ignoreAccess, lockedWrite, readCommand, hp,
      if_false, Host.Outcome.next.injEq] at he <;>
    (try split at he) <;> subst he <;> refine ⟨_, _, _, _, _, rfl, ?_⟩ <;>
    simp +contextual [setOvr, setIll, clearFlags]

/-- All an access can do in IDLE: a READ is a cached return or an acceptance, and every other access leaves all but the
configuration, the flags and the read data. -/
theorem exec_idle {i : Instr} {s h : State} (hp : s.phase = .idle) (he : exec i s = .next h) :
    (i = .wrCmdRead ∧ ((limited s = true ∧ h = cachedReturn s) ∨ (limited s = false ∧ h = accept s))) ∨
    (i ≠ .wrCmdRead ∧
      ∃ literal doneIe budget sdiv minint startlow settle acklim reldly done ovr ill rdata,
        h = { s with
          literal := literal, doneIe := doneIe, budget := budget, sdiv := sdiv, minint := minint
          startlow := startlow, settle := settle, acklim := acklim, reldly := reldly, done := done
          ovr := ovr, ill := ill, rdata := rdata } ∧
        (done = true → s.done = true) ∧ (budget = s.budget ∨ 2 ≤ budget.toNat)) := by
  by_cases hr : i = .wrCmdRead
  · subst hr
    left
    refine ⟨rfl, ?_⟩
    rcases readCommand_cases s with ⟨h1, _⟩ | ⟨_, h2, h3⟩ | ⟨_, h2, h3⟩
    · exact absurd hp h1
    · left; simp only [exec, execWrCmdRead, Host.Outcome.next.injEq] at he; exact ⟨h2, by rw [← he, h3]⟩
    · right; simp only [exec, execWrCmdRead, Host.Outcome.next.injEq] at he; exact ⟨h2, by rw [← he, h3]⟩
  · right
    refine ⟨hr, ?_⟩
    cases i <;> first
      | exact absurd rfl hr
      | (simp only [exec, execWrBudget, lockedWrite, if_pos hp, Host.Outcome.next.injEq] at he
         subst he
         exact ⟨_, _, _, _, _, _, _, _, _, _, _, _, _, rfl, id, .inr (legaliseBudget_ge _)⟩)
      | (simp only [exec, execRdCtrl, execRdCmd, execRdStatus, execRdResult, execRdData0, execRdData1, execRdBudget,
          execRdSdiv, execRdMinint, execRdStartlow, execRdSettle, execRdAcklim, execRdReldly, execRdNowms,
          execRdLasttime, execRdUnmapped3C, execRdUnmapped40, execRdUnmapped80, execWrCtrl, execWrCmdNop,
          execWrCmdRsvd2, execWrCmdRsvd4, execWrCmdRsvd8, execWrStatus, execWrResult, execWrData0, execWrData1,
          execWrSdiv, execWrMinint, execWrStartlow, execWrSettle, execWrAcklim, execWrReldly, execWrNowms,
          execWrLasttime, execWrUnmapped3C, execWrUnmapped40, execWrUnmapped80, respond, ignoreAccess, lockedWrite,
          if_pos hp, Host.Outcome.next.injEq] at he
         subst he
         refine ⟨_, _, _, _, _, _, _, _, _, _, _, _, _, rfl, ?_⟩
         simp +contextual [setIll, clearFlags])

/-! ## The step -/

/-- A step is the edge that ends the cycle, on what the cycle's access, if any, left (R15, R102). -/
theorem step_eq (s : State) : ∃ h, step s = .next (edge (nextInput s) (beginCycle s) h) ∧
    ((accessOf (nextInput s) = none ∧ h = beginCycle s) ∨
      ∃ w, accessOf (nextInput s) = some w ∧ exec (decode w) (beginCycle s) = .next h) := by
  cases ha : accessOf (nextInput s) with
  | none => exact ⟨_, by simp only [step, ha], .inl ⟨rfl, rfl⟩⟩
  | some w =>
    obtain ⟨h, hh⟩ := exec_next (decode w) (beginCycle s)
    exact ⟨h, by simp only [step, ha, hh], .inr ⟨w, rfl, hh⟩⟩

theorem edge_out_of_reset {inp : Input} (h : inp.rstN = true) (s t : State) :
    edge inp s t = unitStep inp s (freeRun inp s t) := by
  simp [edge, h, clockEdge]

theorem edge_in_reset {inp : Input} (h : inp.rstN = false) (s t : State) : edge inp s t = resetEdge s t := by
  simp [edge, h]

/-- MEASURE (R360): the three cases of a tick. -/
theorem measureTick_cases (v pin : Level) (b c : Half) :
    (pin = v ∧ c + 1#16 = b ∧ measureTick v pin b c = (some .timeout, 0#16)) ∨
    (pin = v ∧ c + 1#16 ≠ b ∧ measureTick v pin b c = (none, c + 1#16)) ∨
    (pin ≠ v ∧ measureTick v pin b c = (some (.count c), 1#16)) := by
  unfold measureTick
  by_cases h1 : pin = v
  · by_cases h2 : c + 1#16 = b
    · exact .inl ⟨h1, h2, by rw [if_pos h1, if_pos h2]⟩
    · exact .inr (.inl ⟨h1, h2, by rw [if_pos h1, if_neg h2]⟩)
  · exact .inr (.inr ⟨h1, by rw [if_neg h1]⟩)

end Sys2Proof.Machine
end

