-- ==== Sys2Proof/Laws/PerInstr.lean ====
section
/-! SUPPORT. The family OwnRow: the canonical access word of an operation lies in the operation's own row of
spec/opcode_table.json (R142, R150). -/

namespace Sys2Proof.Laws.OwnRow

open Sys2Proof

/-- The canonical word of `i`, if `i` is well formed, lies in the row `rowIndex i` of the table. -/
def Statement (i : Instr) : Prop :=
  i.wf = true → ∃ r, opcodeTable[rowIndex i]? = some r ∧ inRow r (encode i) = true

/-- WE and ADDR[7:2] are all a row's mask 0x1FC00000000 reads. -/
theorem and_mask (we : Bool) (slot : Slot) (d : Word) :
    accessWord we slot d &&& 0x1FC00000000#41 = BitVec.ofBool we ++ slot ++ 0#34 := by
  apply BitVec.eq_of_getLsbD_eq
  intro i hi
  simp only [accessWord, BitVec.getLsbD_and, BitVec.getLsbD_append, BitVec.getLsbD_ofBool]
  interval_cases i <;> simp

theorem write_row (slot : Slot) (d : Word) :
    writeWord slot d &&& 0x1FC00000000#41 = 1#1 ++ slot ++ 0#34 := and_mask true slot d

theorem rdCtrl : Statement .rdCtrl := fun _ => ⟨_, rfl, by decide⟩
theorem wrCtrl (literal doneIe : Bool) : Statement (.wrCtrl literal doneIe) :=
  fun _ => ⟨_, rfl, by cases literal <;> cases doneIe <;> decide⟩
theorem rdCmd : Statement .rdCmd := fun _ => ⟨_, rfl, by decide⟩
theorem wrCmdNop : Statement .wrCmdNop := fun _ => ⟨_, rfl, by decide⟩
theorem wrCmdRead : Statement .wrCmdRead := fun _ => ⟨_, rfl, by decide⟩
theorem wrCmdRsvd2 (op : BitVec 4) : Statement (.wrCmdRsvd2 op) := fun h => ⟨_, rfl, by revert op; decide⟩
theorem wrCmdRsvd4 (op : BitVec 4) : Statement (.wrCmdRsvd4 op) := fun h => ⟨_, rfl, by revert op; decide⟩
theorem wrCmdRsvd8 (op : BitVec 4) : Statement (.wrCmdRsvd8 op) := fun h => ⟨_, rfl, by revert op; decide⟩
theorem rdStatus : Statement .rdStatus := fun _ => ⟨_, rfl, by decide⟩
theorem wrStatus (clrDone clrOvr clrIll : Bool) : Statement (.wrStatus clrDone clrOvr clrIll) :=
  fun _ => ⟨_, rfl, by cases clrDone <;> cases clrOvr <;> cases clrIll <;> decide⟩
theorem rdResult : Statement .rdResult := fun _ => ⟨_, rfl, by decide⟩
theorem wrResult : Statement .wrResult := fun _ => ⟨_, rfl, by decide⟩
theorem rdData0 : Statement .rdData0 := fun _ => ⟨_, rfl, by decide⟩
theorem wrData0 : Statement .wrData0 := fun _ => ⟨_, rfl, by decide⟩
theorem rdData1 : Statement .rdData1 := fun _ => ⟨_, rfl, by decide⟩
theorem wrData1 : Statement .wrData1 := fun _ => ⟨_, rfl, by decide⟩
theorem rdBudget : Statement .rdBudget := fun _ => ⟨_, rfl, by decide⟩
theorem wrBudget (b : Half) : Statement (.wrBudget b) :=
  fun _ => ⟨_, rfl, by simp only [inRow, encode, write_row]; decide⟩
theorem rdSdiv : Statement .rdSdiv := fun _ => ⟨_, rfl, by decide⟩
theorem wrSdiv (v : Byte) : Statement (.wrSdiv v) :=
  fun _ => ⟨_, rfl, by simp only [inRow, encode, write_row]; decide⟩
theorem rdMinint : Statement .rdMinint := fun _ => ⟨_, rfl, by decide⟩
theorem wrMinint (v : Word) : Statement (.wrMinint v) :=
  fun _ => ⟨_, rfl, by simp only [inRow, encode, write_row]; decide⟩
theorem rdStartlow : Statement .rdStartlow := fun _ => ⟨_, rfl, by decide⟩
theorem wrStartlow (v : Byte) : Statement (.wrStartlow v) :=
  fun _ => ⟨_, rfl, by simp only [inRow, encode, write_row]; decide⟩
theorem rdSettle : Statement .rdSettle := fun _ => ⟨_, rfl, by decide⟩
theorem wrSettle (v : Byte) : Statement (.wrSettle v) :=
  fun _ => ⟨_, rfl, by simp only [inRow, encode, write_row]; decide⟩
theorem rdAcklim : Statement .rdAcklim := fun _ => ⟨_, rfl, by decide⟩
theorem wrAcklim (v : Half) : Statement (.wrAcklim v) :=
  fun _ => ⟨_, rfl, by simp only [inRow, encode, write_row]; decide⟩
theorem rdReldly : Statement .rdReldly := fun _ => ⟨_, rfl, by decide⟩
theorem wrReldly (v : Byte) : Statement (.wrReldly v) :=
  fun _ => ⟨_, rfl, by simp only [inRow, encode, write_row]; decide⟩
theorem rdNowms : Statement .rdNowms := fun _ => ⟨_, rfl, by decide⟩
theorem wrNowms : Statement .wrNowms := fun _ => ⟨_, rfl, by decide⟩
theorem rdLasttime : Statement .rdLasttime := fun _ => ⟨_, rfl, by decide⟩
theorem wrLasttime : Statement .wrLasttime := fun _ => ⟨_, rfl, by decide⟩
theorem rdUnmapped3C : Statement .rdUnmapped3C := fun _ => ⟨_, rfl, by decide⟩
theorem rdUnmapped40 (slot : Slot) : Statement (.rdUnmapped40 slot) := fun h => ⟨_, rfl, by revert slot; decide⟩
theorem rdUnmapped80 (slot : Slot) : Statement (.rdUnmapped80 slot) := fun h => ⟨_, rfl, by revert slot; decide⟩
theorem wrUnmapped3C : Statement .wrUnmapped3C := fun _ => ⟨_, rfl, by decide⟩
theorem wrUnmapped40 (slot : Slot) : Statement (.wrUnmapped40 slot) := fun h => ⟨_, rfl, by revert slot; decide⟩
theorem wrUnmapped80 (slot : Slot) : Statement (.wrUnmapped80 slot) := fun h => ⟨_, rfl, by revert slot; decide⟩

end Sys2Proof.Laws.OwnRow
end

