-- ==== Sys2Proof/Laws/Units.lean ====
section
/-! SUPPORT. The conditions the units test, as facts about numbers; what a unit's step can do; and the inversion lemmas
of a step out of reset, in IDLE and in a transaction. -/

namespace Sys2Proof.Machine

/-! ## The conditions -/

theorem tickS_eq (s : State) : tickS s = decide (s.sdiv.toNat ≤ s.presc.toNat) := by
  simp [tickS, BitVec.le_def]

/-- The (n+1)-th ms tick is the one that finds `wcnt` = n (R304, R312). -/
theorem waitOver_eq (n : Byte) (s : State) : waitOver n s = decide (s.wcnt = n.setWidth 9) := by
  unfold waitOver; rw [Bool.eq_iff_iff]; simp

theorem wcnt_eq_iff (w : BitVec 9) (n : Byte) : w = n.setWidth 9 ↔ w.toNat = n.toNat := by
  have := n.isLt
  rw [← BitVec.toNat_inj]; simp; omega

theorem captureLevel_eq (s : State) : captureLevel s = decide (s.j.toNat % 2 = 1) := by
  rw [Bool.eq_iff_iff]; simp [captureLevel, BitVec.getLsbD, Nat.testBit, Nat.one_and_eq_mod_two]

/-- The lane of bit i is i / 8 (R410). -/
theorem bitLane (i : BitVec 6) : (i.extractLsb' 3 3).toNat = i.toNat / 8 := by
  have := i.isLt
  rw [BitVec.extractLsb'_toNat, Nat.shiftRight_eq_div_pow]; omega

theorem shiftIn_eq (lane : Byte) (b : Bool) : shiftIn lane b = lane <<< 1 ||| (if b then 1#8 else 0#8) := by
  revert lane b; decide

/-- CLASSIFY on counts as numbers (R407). -/
theorem classify_eq (lo hi : Half) : classify lo hi = decide (lo.toNat < hi.toNat) := by
  rw [Bool.eq_iff_iff]; simp [classify, BitVec.lt_def]

/-- CSUM (R412). -/
theorem checksum_toNat (fb : Vector Byte 5) :
    (checksum fb).toNat = (fb[0].toNat + fb[1].toNat + fb[2].toNat + fb[3].toNat) % 256 := by
  have := fb[0].isLt; have := fb[1].isLt; have := fb[2].isLt; have := fb[3].isLt
  simp [checksum]

/-- `ok(F)` (R412). -/
theorem frameOk_eq (fb : Vector Byte 5) :
    frameOk fb = decide ((fb[0].toNat + fb[1].toNat + fb[2].toNat + fb[3].toNat) % 256 = fb[4].toNat) := by
  rw [← checksum_toNat, Bool.eq_iff_iff]; simp [frameOk, BitVec.toNat_eq]

/-- Which phases are in the window (R375). -/
theorem inWindow_iff (p : Phase) : inWindow p = true ↔ p = .ackLow ∨ p = .ackHigh ∨ p = .capture := by
  cases p <;> decide

/-- P_BUDGET_RESET is at least 2 (R38, R565). -/
theorem pBudgetReset_ge : 2 ≤ Config.pBudgetReset.toNat := by
  unfold Config.pBudgetReset
  split
  · decide
  · rename_i h; simp [BitVec.lt_def] at h; omega

/-- The number of a word built by `++`. -/
theorem toNat_append_eq {n m : Nat} (a : BitVec n) (b : BitVec m) :
    (a ++ b).toNat = a.toNat * 2 ^ m + b.toNat := by
  rw [BitVec.toNat_append, Nat.shiftLeft_eq, Nat.mul_comm, ← Nat.two_pow_add_eq_or_of_lt b.isLt]

theorem toNat_ofBool_eq (b : Bool) : (BitVec.ofBool b).toNat = b.toNat := by cases b <;> rfl

/-! ## The units -/

/-- A unit never writes the configuration, the misuse flags, the free-running registers, or what the model adds. -/
theorem unitStep_frame (inp : Input) (s h : State) :
    ((unitStep inp s h).literal = h.literal ∧ (unitStep inp s h).doneIe = h.doneIe ∧
      (unitStep inp s h).budget = h.budget ∧ (unitStep inp s h).sdiv = h.sdiv ∧
      (unitStep inp s h).minint = h.minint ∧ (unitStep inp s h).startlow = h.startlow ∧
      (unitStep inp s h).settle = h.settle ∧ (unitStep inp s h).acklim = h.acklim ∧
      (unitStep inp s h).reldly = h.reldly) ∧
    ((unitStep inp s h).ovr = h.ovr ∧ (unitStep inp s h).ill = h.ill ∧ (unitStep inp s h).cached = h.cached) ∧
    ((unitStep inp s h).presc = h.presc ∧ (unitStep inp s h).sync1 = h.sync1 ∧ (unitStep inp s h).sync2 = h.sync2 ∧
      (unitStep inp s h).nowms = h.nowms ∧ (unitStep inp s h).tstart = h.tstart) ∧
    (unitStep inp s h).rdata = h.rdata ∧ (unitStep inp s h).inputs = h.inputs ∧
      (unitStep inp s h).cycle = h.cycle := by
  unfold unitStep settleStep startStep releaseStep ackWaitStep ackLowStep ackHighStep captureStep assembleStep
  split <;> (try simp only []) <;> repeat' split
  all_goals simp

/-- A unit's step either stays in the transaction and leaves the cache and DONE alone, or completes it (R420, R515). -/
theorem unitStep_cases {inp : Input} {s h : State} (hp : s.phase ≠ .idle) (hh : h.phase = s.phase) :
    ((unitStep inp s h).phase ≠ .idle ∧ (unitStep inp s h).result = h.result ∧
      (unitStep inp s h).lasttime = h.lasttime ∧ (unitStep inp s h).haveResult = h.haveResult ∧
      (unitStep inp s h).done = h.done) ∨
    ∃ kind bits half hsph g, kind ≠ Kind.none ∧ unitStep inp s h = complete kind bits half hsph s g := by
  unfold unitStep settleStep startStep releaseStep ackWaitStep ackLowStep ackHighStep captureStep assembleStep
  split <;> (try simp only []) <;> repeat' split
  all_goals first
    | (left; simp_all; done)
    | (right; refine ⟨_, _, _, _, _, ?_, rfl⟩; simp)

/-! ## A step out of reset -/

/-- In a transaction: the unit's step, on what the access left. -/
theorem step_busy {s t : State} (hr : (nextInput s).rstN = true) (hp : s.phase ≠ .idle) (he : step s = .next t) :
    ∃ doneIe done ovr ill rdata,
      t = unitStep (nextInput s) (beginCycle s) (freeRun (nextInput s) (beginCycle s)
        { beginCycle s with doneIe := doneIe, done := done, ovr := ovr, ill := ill, rdata := rdata }) ∧
      (done = true → s.done = true) := by
  obtain ⟨h, h1, h2⟩ := step_eq s
  rw [h1] at he
  cases he
  rw [edge_out_of_reset hr]
  have hp' : (beginCycle s).phase ≠ .idle := by simpa using hp
  rcases h2 with ⟨_, rfl⟩ | ⟨w, _, hw⟩
  · exact ⟨_, _, _, _, _, rfl, id⟩
  · obtain ⟨_, _, _, _, _, rfl, h3⟩ := exec_busy hp' hw
    exact ⟨_, _, _, _, _, rfl, h3⟩

/-- In IDLE: what the access left, and the free-running registers. -/
theorem step_idle {s t : State} (hr : (nextInput s).rstN = true) (hp : s.phase = .idle) (he : step s = .next t) :
    ∃ h, t = freeRun (nextInput s) (beginCycle s) h ∧
      ((accessOf (nextInput s) = none ∧ h = beginCycle s) ∨
        ∃ w, accessOf (nextInput s) = some w ∧ exec (decode w) (beginCycle s) = .next h) := by
  obtain ⟨h, h1, h2⟩ := step_eq s
  rw [h1] at he
  cases he
  rw [edge_out_of_reset hr]
  exact ⟨h, by simp [unitStep, hp], h2⟩

end Sys2Proof.Machine
end

