-- ==== Sys2Proof/Laws/Runs.lean ====
section
/-! SUPPORT. Runs: every step has a next state, so a run of n + 1 steps is a run of n steps from the state after the
first, and after n steps the inputs still to come are those of n cycles later. With them the line of a run, and the cycle of
a host program. -/

namespace Sys2Proof.Machine

/-- The state after a step is the step's next state. -/
theorem step_after (s : State) : step s = .next (after s) := by
  obtain ⟨h, h1, _⟩ := step_eq s
  rw [h1, after, h1]

theorem run_zero (s : State) : run 0 s = .next s := rfl

theorem run_succ (n : Nat) (s : State) : run (n + 1) s = run n (after s) := by
  simp only [run, Host.Core.run]
  rw [show Sys2Proof.core.step s = .next (after s) from step_after s]

/-- No run ever stops. -/
theorem run_next (n : Nat) (s : State) : ∃ t, run n s = .next t := by
  induction n generalizing s with
  | zero => exact ⟨s, rfl⟩
  | succ n ih => rw [run_succ]; exact ih _

theorem run_add (m n : Nat) {s t : State} (h : run m s = .next t) : run (m + n) s = run n t := by
  induction m generalizing s with
  | zero => rw [run_zero] at h; cases h; rw [Nat.zero_add]
  | succ m ih => rw [run_succ] at h; rw [Nat.succ_add, run_succ]; exact ih h

/-- The last step of a run. -/
theorem run_last (n : Nat) {s t : State} (h : run n s = .next t) : run (n + 1) s = .next (after t) := by
  rw [run_add n 1 h, run_succ, run_zero]

/-- Out of reset, a step takes the next cycle's inputs away and counts the cycle. -/
theorem step_model {s t : State} (he : step s = .next t) :
    t.inputs = s.inputs.tail ∧ t.cycle = s.cycle + 1 := by
  obtain ⟨h, h1, h2⟩ := step_eq s
  rw [h1] at he
  cases he
  by_cases hr : (nextInput s).rstN = true
  · rw [edge_out_of_reset hr]
    obtain ⟨_, _, _, _, hi, hc⟩ := unitStep_frame (nextInput s) (beginCycle s) (freeRun (nextInput s) (beginCycle s) h)
    rw [hi, hc]
    rcases h2 with ⟨_, rfl⟩ | ⟨w, _, hw⟩
    · simp
    · by_cases hp : (beginCycle s).phase = .idle
      · rcases exec_idle hp hw with ⟨_, ⟨_, rfl⟩ | ⟨_, rfl⟩⟩ | ⟨_, _, _, _, _, _, _, _, _, _, _, _, _, _, rfl, _⟩ <;>
          simp
      · obtain ⟨_, _, _, _, _, rfl, _⟩ := exec_busy hp hw
        simp
  · rw [edge_in_reset (by simpa using hr)]
    simp

theorem inputAt_zero (s : State) : inputAt s 0 = nextInput s := by
  simp only [inputAt, nextInput]
  cases s.inputs <;> rfl

theorem inputAt_after (s : State) (k : Nat) : inputAt (after s) k = inputAt s (k + 1) := by
  obtain ⟨h1, h2⟩ := step_model (step_after s)
  simp only [inputAt, h1, h2]
  cases s.inputs <;> simp [Nat.add_assoc, Nat.add_comm 1]

theorem OutOfReset.head {s : State} {n : Nat} (h : OutOfReset s (n + 1)) : (nextInput s).rstN = true := by
  rw [← inputAt_zero]; exact h 0 (by omega)

theorem OutOfReset.tail {s : State} {n : Nat} (h : OutOfReset s (n + 1)) : OutOfReset (after s) n := by
  intro k hk
  rw [inputAt_after]; exact h (k + 1) (by omega)

/-! ## The line of a run, and the fold -/

@[simp] theorem lineOf_zero (s : State) : lineOf 0 s = [] := rfl

/-- An evaluated cycle puts its level on the line. -/
theorem lineOf_succ_evaluated (n : Nat) {s : State} (h : evaluates s = true) :
    lineOf (n + 1) s = pinS s :: lineOf n (after s) := by rw [lineOf, if_pos h]

/-- Any other cycle leaves the line as it is. -/
theorem lineOf_succ_skipped (n : Nat) {s : State} (h : evaluates s = false) :
    lineOf (n + 1) s = lineOf n (after s) := by rw [lineOf, if_neg (by simp [h])]

/-- The phases before ACK_WAIT put nothing on the line (R480). -/
theorem evaluates_before_ackWait {s : State} (h : s.phase = .settle ∨ s.phase = .start ∨ s.phase = .release) :
    evaluates s = false := by rcases h with h | h | h <;> simp [evaluates, h]

@[simp] theorem foldedBits_zero (samp : Nat → PulseResult) : foldedBits samp 0 = zeroFrame := rfl

theorem foldedBits_succ (samp : Nat → PulseResult) (m : Nat) :
    foldedBits samp (m + 1) =
      foldBit (foldedBits samp m) (m / 8) (classify (samp (2 * m)).cnt (samp (2 * m + 1)).cnt) := by
  simp [foldedBits, List.range_succ]

/-! ## Host programs -/

/-- One cycle of a host program that stands at the operation `op`. -/
theorem hostCycle_cons (env : EnvInput) (op : HostOp) (ops : List HostOp) (s : State) :
    let t := after { s with inputs := hostInput env (some op) :: s.inputs }
    hostCycle env (op :: ops) s = .next (if hostDone t.rdata (irqSeen s) op then ops else op :: ops, t) := by
  simp only [hostCycle, List.head?_cons]
  rw [step_after]
  rfl

/-- In a legal state the platform masks nothing that is pending: the window is closed whenever DONE is 1 (R521). -/
theorem irqSeen_eq {s : State} (h : Legal s) : irqSeen s = (s.done && s.doneIe) := by
  unfold irqSeen hostIrqMasked irqO critO
  rw [h.crit]
  by_cases hp : s.phase = .idle
  · simp [hp, inWindow]
  · simp [(h.notDone hp).1]

end Sys2Proof.Machine
end

