-- ==== Sys2Proof/Tests/Slice0.lean ====
section
/-! SUPPORT. The model's own tests: ill-formed terms are refused, words written out from spec/30_encoding.md decode to
their operations, one-step vectors of spec/95_test_vectors.md, and for every statement with hypotheses a concrete case
that meets them. -/

namespace Sys2Proof.Tests

open Sys2Proof Sys2Proof.Machine

/-! ## Well-formedness: an ill-formed term for each check -/

theorem test_wf_rsvd2 : Instr.wf (.wrCmdRsvd2 0x0#4) = false ∧ Instr.wf (.wrCmdRsvd2 0x4#4) = false := by decide
theorem test_wf_rsvd4 : Instr.wf (.wrCmdRsvd4 0x3#4) = false ∧ Instr.wf (.wrCmdRsvd4 0x8#4) = false := by decide
theorem test_wf_rsvd8 : Instr.wf (.wrCmdRsvd8 0x7#4) = false := by decide
theorem test_wf_rdUnmapped40 : Instr.wf (.rdUnmapped40 0x0F#6) = false ∧ Instr.wf (.rdUnmapped40 0x20#6) = false := by
  decide
theorem test_wf_rdUnmapped80 : Instr.wf (.rdUnmapped80 0x1F#6) = false := by decide
theorem test_wf_wrUnmapped40 : Instr.wf (.wrUnmapped40 0x0F#6) = false ∧ Instr.wf (.wrUnmapped40 0x20#6) = false := by
  decide
theorem test_wf_wrUnmapped80 : Instr.wf (.wrUnmapped80 0x1F#6) = false := by decide
theorem test_wf_accepts : Instr.wf (.wrCmdRsvd2 0x3#4) = true ∧ Instr.wf (.rdUnmapped40 0x1F#6) = true ∧
    Instr.wf (.wrUnmapped80 0x3F#6) = true := by decide

/-! ## Decoding: WE ++ ADDR ++ WDATA, written out from R140 and the table of R150 -/

/-- An access word from its three fields as R140 lists them. -/
def word (we : BitVec 1) (addr : BitVec 8) (wdata : BitVec 32) : AccessWord := we ++ addr ++ wdata

theorem test_decode_ctrl_cmd_reads :
    decode (word 0b0#1 0b00000000#8 0b00000000000000000000000000000000#32) = .rdCtrl ∧
    decode (word 0b0#1 0b00000100#8 0#32) = .rdCmd := by decide
theorem test_decode_ctrl_writes :
    decode (word 0b1#1 0b00000000#8 0b00000000000000000000000000000001#32) = .wrCtrl true false ∧
    decode (word 0b1#1 0b00000000#8 0b11111111111111111111111111111110#32) = .wrCtrl false true := by decide
theorem test_decode_cmd_writes :
    decode (word 0b1#1 0b00000100#8 0b00000000000000000000000000000000#32) = .wrCmdNop ∧
    decode (word 0b1#1 0b00000100#8 0b11111111111111111111111111110001#32) = .wrCmdRead ∧
    decode (word 0b1#1 0b00000100#8 0b00000000000000000000000000000011#32) = .wrCmdRsvd2 0b0011#4 ∧
    decode (word 0b1#1 0b00000100#8 0b00000000000000000000000000000100#32) = .wrCmdRsvd4 0b0100#4 ∧
    decode (word 0b1#1 0b00000100#8 0b00000000000000000000000000001000#32) = .wrCmdRsvd8 0b1000#4 := by decide
theorem test_decode_status :
    decode (word 0b0#1 0b00001000#8 0#32) = .rdStatus ∧
    decode (word 0b1#1 0b00001000#8 0b00000000000000000000000000000010#32) = .wrStatus true false false ∧
    decode (word 0b1#1 0b00001000#8 0b00000000000000000000000000010000#32) = .wrStatus false true false ∧
    decode (word 0b1#1 0b00001000#8 0b00000000000000000000000000100000#32) = .wrStatus false false true := by decide
theorem test_decode_result_data :
    decode (word 0b0#1 0b00001100#8 0#32) = .rdResult ∧ decode (word 0b1#1 0b00001100#8 7#32) = .wrResult ∧
    decode (word 0b0#1 0b00010000#8 0#32) = .rdData0 ∧ decode (word 0b1#1 0b00010000#8 7#32) = .wrData0 ∧
    decode (word 0b0#1 0b00010100#8 0#32) = .rdData1 ∧ decode (word 0b1#1 0b00010100#8 7#32) = .wrData1 := by decide
theorem test_decode_configuration_reads :
    decode (word 0b0#1 0b00011000#8 0#32) = .rdBudget ∧ decode (word 0b0#1 0b00011100#8 0#32) = .rdSdiv ∧
    decode (word 0b0#1 0b00100000#8 0#32) = .rdMinint ∧ decode (word 0b0#1 0b00100100#8 0#32) = .rdStartlow ∧
    decode (word 0b0#1 0b00101000#8 0#32) = .rdSettle ∧ decode (word 0b0#1 0b00101100#8 0#32) = .rdAcklim ∧
    decode (word 0b0#1 0b00110000#8 0#32) = .rdReldly := by decide
theorem test_decode_configuration_writes :
    decode (word 0b1#1 0b00011000#8 0x00012345#32) = .wrBudget 0x2345#16 ∧
    decode (word 0b1#1 0b00011100#8 0x000001FF#32) = .wrSdiv 0xFF#8 ∧
    decode (word 0b1#1 0b00100000#8 0x89ABCDEF#32) = .wrMinint 0x89ABCDEF#32 ∧
    decode (word 0b1#1 0b00100100#8 0x00000100#32) = .wrStartlow 0#8 ∧
    decode (word 0b1#1 0b00101000#8 0x00000003#32) = .wrSettle 3#8 ∧
    decode (word 0b1#1 0b00101100#8 0x00010005#32) = .wrAcklim 5#16 ∧
    decode (word 0b1#1 0b00110000#8 0x00000101#32) = .wrReldly 1#8 := by decide
theorem test_decode_time :
    decode (word 0b0#1 0b00110100#8 0#32) = .rdNowms ∧ decode (word 0b1#1 0b00110100#8 7#32) = .wrNowms ∧
    decode (word 0b0#1 0b00111000#8 0#32) = .rdLasttime ∧ decode (word 0b1#1 0b00111000#8 7#32) = .wrLasttime := by
  decide
theorem test_decode_unmapped_reads :
    decode (word 0b0#1 0b00111100#8 0#32) = .rdUnmapped3C ∧
    decode (word 0b0#1 0b01000000#8 0#32) = .rdUnmapped40 0b010000#6 ∧
    decode (word 0b0#1 0b01111100#8 0#32) = .rdUnmapped40 0b011111#6 ∧
    decode (word 0b0#1 0b10000000#8 0#32) = .rdUnmapped80 0b100000#6 := by decide
theorem test_decode_unmapped_writes :
    decode (word 0b1#1 0b00111100#8 0#32) = .wrUnmapped3C ∧
    decode (word 0b1#1 0b01000000#8 0#32) = .wrUnmapped40 0b010000#6 ∧
    decode (word 0b1#1 0b11111100#8 0#32) = .wrUnmapped80 0b111111#6 := by decide
/-- V-REG-26: 0x0B selects STATUS, not RESULT. -/
theorem test_decode_unaligned : decode (word 0b0#1 0b00001011#8 0#32) = .rdStatus := by decide
/-- R140, R141: no access word is wider than 41 bits. -/
theorem test_decode_out_of_range :
    decodeNat (2 ^ 41) = .error .widerThanAccessWord ∧ decodeTableWord 48 (2 ^ 41 + 1) = none ∧
    decodeTableWord 48 (2 ^ 41 - 1) = some (.wrUnmapped80 0x3F#6) := by decide

/-! ## Small states -/

/-- The reset state with B = 10. -/
def base : State := { State.reset with budget := 10#16 }

/-- The state after a cycle with the access `w`. -/
def access (s : State) (w : AccessWord) : State := after { s with inputs := [accessInput w] }

/-- The state after a cycle without an access. -/
def cycle (s : State) (pin : Level) (ms : Bool) : State := after { s with inputs := [idleInput pin ms] }

/-- The samples of a buffer that starts with `l`. -/
def sampOf (l : List Sample) : Vector Sample 80 := Vector.ofFn fun k => l.getD k.val ⟨false, 0#16⟩

/-! ## The host operations (spec/95_test_vectors.md §2.2, §2.6, §2.7) -/

/-- V-REG-1, V-REG-2. -/
theorem test_ctrl : (access base (rd .ctrl)).rdata = some 0#32 ∧
    ctrlWord (access base (wr .ctrl 0xFFFFFFFF#32)) = 0x3#32 := by decide
/-- V-REG-3, V-REG-4. -/
theorem test_ctrl_busy :
    let s := { base with phase := .ackWait, acklim := 0#16, sync2 := true }
    let t := access s (wr .ctrl 0x2#32)
    let u := access { s with doneIe := true } (wr .ctrl 0x1#32)
    (t.doneIe = true ∧ t.literal = false ∧ t.ovr = false) ∧ (u.doneIe = false ∧ u.literal = false ∧ u.ovr = true) := by
  decide
/-- V-REG-5, V-REG-6. -/
theorem test_cmd : (access { base with ill := true } (rd .cmd)).rdata = some 0#32 ∧
    (access base (wr .cmd 0#32)).phase = .idle ∧ (access base (wr .cmd 0#32)).done = false := by decide
/-- V-REG-7. -/
theorem test_reserved :
    (access base (wr .cmd 0x2#32)).ill = true ∧ (access base (wr .cmd 0x7#32)).ill = true ∧
    (access base (wr .cmd 0xF#32)).ill = true ∧ (access base (wr .cmd 0xF#32)).phase = .idle := by decide
/-- V-REG-8, V-SEQ-1. -/
theorem test_read_command :
    let s := { base with nowms := 5000#32, fb := Vector.replicate 5 7#8, cached := true }
    let t := access s (wr .cmd 0x1#32)
    (t.phase = .start ∧ t.tstart = 5000#32 ∧ t.fb = Vector.replicate 5 0#8 ∧ t.done = false ∧ t.cached = false) ∧
    (access t (wr .cmd 0x1#32)).ovr = true := by decide
/-- V-RL-1, V-RL-2, V-RL-5. -/
theorem test_rate_limit :
    let s := { base with haveResult := true, lasttime := 1000#32, nowms := 2999#32 }
    let u := { base with haveResult := true, lasttime := 0xFFFFFFF0#32, nowms := 0x10#32 }
    (access s (wr .cmd 0x1#32)).cached = true ∧ (access s (wr .cmd 0x1#32)).phase = .idle ∧
    (access { s with nowms := 3000#32 } (wr .cmd 0x1#32)).phase = .start ∧
    (access u (wr .cmd 0x1#32)).cached = true := by decide
/-- V-REG-9. -/
theorem test_status_read :
    (access { base with phase := .capture, critQ := true, haveResult := true } (rd .status)).rdata = some 0x749#32 := by
  decide
/-- V-REG-10. -/
theorem test_status_write :
    let s := { base with done := true, ovr := true, ill := true, cached := true, haveResult := true }
    statusWord (access s (wr .status 0x7F#32)) = 0x44#32 := by decide
/-- P3's RD RESULT, and V-REG-11. -/
theorem test_result :
    let s := { base with result := ⟨.pulseTimeout, 3#6, true, 0#2⟩ }
    (access s (rd .result)).rdata = some 0x00010303#32 ∧
    (access s (wr .result 0xFFFFFFFF#32)).result = s.result := by decide
/-- X1: the frame of P1, and V-REG-11. -/
theorem test_data :
    let s := { base with fb := #v[0x20#8, 0x00#8, 0x19#8, 0x00#8, 0x39#8] }
    (access s (rd .data0)).rdata = some 0x00190020#32 ∧ (access s (rd .data1)).rdata = some 0x00013939#32 ∧
    (access s (wr .data0 0xFFFFFFFF#32)).fb = s.fb ∧ (access s (wr .data1 0xFFFFFFFF#32)).fb = s.fb := by decide
/-- X2, V-REG-12. -/
theorem test_data1_checksum :
    let s := { base with fb := #v[0x20#8, 0x00#8, 0x19#8, 0x00#8, 0x38#8] }
    (access s (rd .data1)).rdata = some 0x00003938#32 ∧ (access base (rd .data1)).rdata = some 0x00010000#32 := by
  decide
/-- V-REG-13 to V-REG-17. -/
theorem test_budget :
    (access base (wr .budget 0#32)).budget = 2#16 ∧ (access base (wr .budget 1#32)).budget = 2#16 ∧
    (access base (wr .budget 0x12345#32)).budget = 0x2345#16 ∧
    (access base (wr .budget 0x00010000#32)).budget = 2#16 ∧
    (access base (wr .budget 0xFFFFFFFF#32)).budget = 0xFFFF#16 ∧ (access base (rd .budget)).rdata = some 10#32 := by
  decide
/-- V-REG-18. -/
theorem test_budget_busy :
    let t := access { base with phase := .release } (wr .budget 20#32)
    t.budget = 10#16 ∧ t.ovr = true := by decide
/-- V-REG-19 to V-REG-22. -/
theorem test_configuration_writes :
    (access base (wr .sdiv 0x1FF#32)).sdiv = 0xFF#8 ∧
    (access base (wr .minint 0xFFFFFFFF#32)).minint = 0xFFFFFFFF#32 ∧
    (access base (wr .startlow 0x100#32)).startlow = 0#8 ∧ (access base (wr .settle 3#32)).settle = 3#8 ∧
    (access base (wr .acklim 0x10005#32)).acklim = 5#16 ∧ (access base (wr .reldly 0x101#32)).reldly = 1#8 := by decide
/-- V-RST-1's reads. -/
theorem test_configuration_reads :
    (access base (rd .sdiv)).rdata = some 0#32 ∧ (access base (rd .minint)).rdata = some 0x7D0#32 ∧
    (access base (rd .startlow)).rdata = some 0x14#32 ∧ (access base (rd .settle)).rdata = some 0#32 ∧
    (access { base with acklim := 5#16 } (rd .acklim)).rdata = some 5#32 ∧
    (access { base with reldly := 0xFF#8 } (rd .reldly)).rdata = some 0xFF#32 := by decide
/-- V-REG-23. -/
theorem test_time :
    let s := { base with nowms := 5#32, lasttime := 6#32 }
    (access s (rd .nowms)).rdata = some 5#32 ∧ (access s (rd .lasttime)).rdata = some 6#32 ∧
    (access s (wr .nowms 7#32)).nowms = 5#32 ∧ (access s (wr .lasttime 7#32)).lasttime = 6#32 := by decide
/-- V-REG-24. -/
theorem test_unmapped_reads :
    (access base (rdAt 0x3C#8)).rdata = some 0#32 ∧ (access base (rdAt 0x40#8)).rdata = some 0#32 ∧
    (access base (rdAt 0x80#8)).rdata = some 0#32 ∧ (access base (rdAt 0xFC#8)).rdata = some 0#32 := by decide
/-- V-REG-25. -/
theorem test_unmapped_writes :
    statusWord (access base (wrAt 0x3C#8 0xFFFFFFFF#32)) = 0#32 ∧
    statusWord (access base (wrAt 0x40#8 0xFFFFFFFF#32)) = 0#32 ∧
    statusWord (access base (wrAt 0xFC#8 0xFFFFFFFF#32)) = 0#32 := by decide
/-- V-EXC-1, V-EXC-2, V-EXC-3: accesses in the cycle whose edge completes a transaction. -/
theorem test_completion_cycle :
    let s := { base with phase := .assemble, i := 39#6 }
    statusWord (access s (wr .status 0x2#32)) = 0x42#32 ∧ statusWord (access s (wr .cmd 0x1#32)) = 0x52#32 ∧
    (access s (rd .status)).rdata = some 0x801#32 := by decide
/-- V-EXC-6. -/
theorem test_interrupt_disable :
    let s := { base with done := true, doneIe := true }
    irqO s = true ∧ irqO (access s (wr .ctrl 0#32)) = false ∧ (access s (wr .ctrl 0#32)).done = true := by decide

/-! ## The units (spec/95_test_vectors.md §2.3, §2.4, §2.5) -/

/-- V-SEQ-2, and the phases of R300. -/
theorem test_first_phase :
    (access { base with startlow := 0#8 } (wr .cmd 0x1#32)).phase = .release ∧
    (access { base with settle := 1#8 } (wr .cmd 0x1#32)).phase = .settle := by decide
/-- V-SEQ-3, V-SEQ-4: STARTLOW = 1 takes two ms ticks. -/
theorem test_start :
    let s := { base with phase := .start, startlow := 1#8 }
    (cycle s true true).phase = .start ∧ (cycle { s with wcnt := 1#9 } true true).phase = .release ∧
    (cycle { s with wcnt := 1#9 } true false).phase = .start := by decide
/-- R320: two cycles of RELEASE. -/
theorem test_release :
    let s := { base with phase := .release }
    (cycle s true false).phase = .release ∧ (cycle { s with rel := true } true false).phase = .ackWait := by decide
/-- V-SEQ-6, V-SEQ-7, V-SEQ-10. -/
theorem test_ackWait :
    let s := { base with phase := .ackWait, sync2 := false }
    let t := cycle s true false
    (t.phase = .ackLow ∧ t.c = 1#16 ∧ critO t = true) ∧
    (cycle { s with reldly := 2#8, sk := 1#8 } true false).phase = .ackWait ∧
    (cycle { s with acklim := 3#16, aw := 2#16 } true false).phase = .ackLow := by decide
/-- V-SEQ-8: RESULT = 0x0010_0002. -/
theorem test_ackWait_timeout :
    let t := cycle { base with phase := .ackWait, acklim := 3#16, aw := 2#16 } true false
    t.phase = .idle ∧ resultWord t.result = 0x00100002#32 ∧ critO t = false := by decide
/-- V-SAMP-1. -/
theorem test_measure :
    measureTick false false 5#16 1#16 = (none, 2#16) ∧ measureTick false false 5#16 2#16 = (none, 3#16) ∧
    measureTick false true 5#16 3#16 = (some (.count 3#16), 1#16) := by decide
/-- V-SAMP-3, V-SAMP-4. -/
theorem test_measure_timeout :
    measureTick true true 10#16 9#16 = (some .timeout, 0#16) ∧
    measureTick false true 10#16 0#16 = (some (.count 0#16), 1#16) := by decide
/-- V-SAMP-6: a shorter SDIV ticks at once. -/
theorem test_prescaler :
    let s := { base with sdiv := 3#8, presc := 2#8 }
    let t := access s (wr .sdiv 1#32)
    t.presc = 3#8 ∧ tickS t = true ∧ (cycle t true false).presc = 0#8 := by decide
/-- V-SAMP-7: `pin_s` is the pad two cycles ago. -/
theorem test_synchronizer :
    let t := cycle base false false
    pinS t = true ∧ pinS (cycle t true false) = false := by decide
/-- V-SAMP-8 and V-SAMP-9: RESULT = 0x0020_0002 and 0x0030_0002. -/
theorem test_acknowledgement_timeouts :
    let s := { base with phase := .ackLow, c := 9#16, critQ := true, sync2 := false }
    resultWord (cycle s true false).result = 0x00200002#32 ∧
    resultWord (cycle { s with phase := .ackHigh, sync2 := true } true false).result = 0x00300002#32 := by decide
/-- R366, V-SAMP-10: the acknowledgement ends, and a low pulse of 50 ticks is stored. -/
theorem test_capture :
    let s := { base with phase := .capture, budget := 100#16, c := 50#16, critQ := true }
    (cycle { s with phase := .ackHigh, sync2 := false } true false).phase = .capture ∧
    (cycle s true false).samp[0] = ⟨false, 50#16⟩ ∧ (cycle s true false).j = 1#7 := by decide
/-- V-SAMP-11: pulse 79 times out, and ASSEMBLE begins. -/
theorem test_capture_end :
    let t := cycle { base with phase := .capture, c := 9#16, j := 79#7, critQ := true } true false
    t.phase = .assemble ∧ t.i = 0#6 ∧ critO t = false ∧ t.samp[79].timedOut = true := by decide
/-- X3, V-ASM-1, V-ASM-2 with B = 10. -/
theorem test_classify :
    classify 5#16 7#16 = true ∧ classify 5#16 2#16 = false ∧ classify 5#16 5#16 = false ∧
    classify 0#16 0#16 = false ∧ classify 9#16 0#16 = false ∧ classify 0#16 1#16 = true := by decide
/-- V-ASM-3: FB[0] goes from 0x01 to 0x02 and from 0x10 to 0x20, and takes its first 1 at bit 2. -/
theorem test_fold :
    shiftIn 0x00#8 true = 0x01#8 ∧ shiftIn 0x01#8 false = 0x02#8 ∧ shiftIn 0x10#8 false = 0x20#8 ∧
    foldBit (Vector.replicate 5 0#8) 1 true = #v[0#8, 1#8, 0#8, 0#8, 0#8] := by decide
/-- V-ASM-7. -/
theorem test_checksum_wraps : frameOk #v[0xFF#8, 0xFF#8, 0x01#8, 0x02#8, 0x01#8] = true := by decide
/-- V-ASM-4: the ninth bit of a literal transaction ends it: RESULT = 0x0000_0901. -/
theorem test_literal_accept :
    let s := { base with
      phase := .assemble, literal := true, i := 8#6, fb := #v[0xFF#8, 0#8, 0#8, 0#8, 0#8]
      samp := (sampOf []).set 17 ⟨false, 7#16⟩ }
    let t := cycle s true false
    resultWord t.result = 0x00000901#32 ∧ data0Word t.fb = 0x000001FF#32 ∧ data1Word t.fb = 0x00010000#32 := by decide
/-- V-ASM-9 and V-ASM-10: RESULT = 0x0001_0303 and 0x0000_0003. -/
theorem test_pulse_timeouts :
    let s := { base with phase := .assemble, i := 3#6, samp := (sampOf []).set 7 ⟨true, 0#16⟩ }
    let u := { base with phase := .assemble, samp := sampOf [⟨true, 1#16⟩, ⟨true, 2#16⟩] }
    resultWord (cycle s true false).result = 0x00010303#32 ∧
    resultWord (cycle u true false).result = 0x00000003#32 := by decide
/-- V-ASM-6: the 40th bit of a frame whose checksum is off by one: RESULT = 0x0000_2804. -/
theorem test_checksum_mismatch :
    let s := { base with phase := .assemble, i := 39#6, fb := #v[0x20#8, 0x00#8, 0x19#8, 0x00#8, 0x1C#8] }
    let t := cycle s true false
    resultWord t.result = 0x00002804#32 ∧ data1Word t.fb = 0x00003938#32 := by decide
/-- V-TXN-1 to V-TXN-5. -/
theorem test_txn :
    (txn 4 0 false [true, true, false, false, true, true, true, true, true]).map (fun e => (e.outcome.result, e.tick)) =
      some (⟨.handshakeTimeout, 0#6, false, 3#2⟩, 7) ∧
    (txn 4 3 false [true, true, true]).map (fun e => (e.outcome.result, e.tick)) =
      some (⟨.handshakeTimeout, 0#6, false, 1#2⟩, 2) ∧
    ackEdge 3 0 [true, true, false] = .opened 2 ∧
    (txn 4 0 false [false, false, false, false]).map (fun e => (e.outcome.result, e.tick)) =
      some (⟨.handshakeTimeout, 0#6, false, 2#2⟩, 3) ∧
    txn 4 0 false [true, true, true] = none := by decide

/-! ## Witnesses: for every statement with hypotheses, a case that meets them, one for each clause -/

/-- `n` cycles out of reset without an access, with the line high and no ms tick. -/
def quiet (n : Nat) : List Input := List.replicate n (idleInput true false)

/-- Cycles with a line that alternates. -/
def alternating : Nat → List Input
  | 0 => []
  | n + 1 => idleInput (n % 2 == 0) false :: alternating n

/-- An idle block that has completed a transaction. -/
def idling : State :=
  { base with haveResult := true, result := ⟨.success, 40#6, false, 0#2⟩, lasttime := 3#32, inputs := quiet 4 }

/-- A block at its first evaluated tick of ACK_WAIT, with L = 1. -/
def waiting : State := { base with phase := .ackWait, acklim := 1#16, inputs := quiet 4 }

/-- A block whose window is open: ACK_LOW at its last tick before a timeout. -/
def inWindowState : State :=
  { base with phase := .ackLow, critQ := true, c := 9#16, sync2 := false, inputs := quiet 4 }

/-- A block at its last capture pulse. -/
def lastPulse : State := { base with phase := .capture, critQ := true, c := 9#16, j := 79#7, inputs := quiet 4 }

/-- A block at its last bit. -/
def lastBit : State := { base with phase := .assemble, i := 39#6, inputs := quiet 4 }

/-- A block at the start of ASSEMBLE. -/
def firstBit : State := { base with phase := .assemble, inputs := quiet 40 }

/-- A block in START with one ms tick to go. -/
def starting : State := { base with phase := .start, startlow := 1#8, wcnt := 1#9, inputs := quiet 4 }

/-- ACK_WAIT with B = 2 and a line that alternates at every tick. -/
def busyLine : State := { base with phase := .ackWait, budget := 2#16, sync2 := false, inputs := alternating 84 }

theorem witness_legal_idling : Legal idling := by
  constructor <;> first | decide | simp [idling, base, legalResult]
theorem witness_legal_waiting : Legal waiting := by
  constructor <;> first | decide | simp [waiting, base, State.reset, ResultReg.reset, legalResult]
theorem witness_legal_inWindow : Legal inWindowState := by
  constructor <;> first | decide | simp [inWindowState, base, State.reset, ResultReg.reset, legalResult]
theorem witness_legal_lastPulse : Legal lastPulse := by
  constructor <;> first | decide | simp [lastPulse, base, State.reset, ResultReg.reset, legalResult]
theorem witness_legal_lastBit : Legal lastBit := by
  constructor <;> first | decide +kernel | simp [lastBit, base, State.reset, ResultReg.reset, legalResult]
theorem witness_legal_starting : Legal starting := by
  constructor <;> first | decide | simp [starting, base, State.reset, ResultReg.reset, legalResult]
theorem witness_legal_busyLine : Legal busyLine := by
  constructor <;> first | decide | simp [busyLine, base, State.reset, ResultReg.reset, legalResult]

/-- EveryStepHasANextState and every statement about `step s = .next t`: any state and the state after it. -/
theorem witness_step (s : State) : step s = .next (after s) := step_after s

theorem witness_DecodeOfEncodeIsIdentity :
    Instr.wf (.wrCmdRsvd2 0x3#4) = true ∧ Instr.wf (.wrCmdRsvd4 0x7#4) = true ∧ Instr.wf (.wrCmdRsvd8 0xF#4) = true ∧
    Instr.wf (.rdUnmapped40 0x10#6) = true ∧ Instr.wf (.rdUnmapped80 0x3F#6) = true := by decide
theorem witness_EveryWordHasExactlyOneRow :
    ∃ r, opcodeTable[39]? = some r ∧ inRow r 0x1FCFFFFFFFF#41 = true ∧ rowIndex (decode 0x1FCFFFFFFFF#41) = 39 :=
  ⟨_, rfl, by decide, by decide⟩
theorem witness_AnyReadReturnsItsRegister : weOf (rdAt 0x0B#8) = false := by decide
theorem witness_OnlyReadCommandStartsTheSequencer :
    ∃ t, exec .wrCmdRead base = .next t ∧ t.phase ≠ base.phase := ⟨_, rfl, by decide⟩
/-- The encoding clauses of the statements about host operations: a word at each bound of every range of offsets and of
CMD.OP, whatever ADDR[1:0] holds. -/
theorem witness_ReadsAt :
    (∀ off ∈ [0x3F#8, 0x40#8, 0x7F#8, 0x80#8, 0xFF#8], weOf (rdAt off) = false) ∧
    slotOf (rdAt 0x3F#8) = 0x0F#6 ∧ slotOf (rdAt 0x40#8) = 0x10#6 ∧ slotOf (rdAt 0x7F#8) = 0x1F#6 ∧
    slotOf (rdAt 0x80#8) = 0x20#6 ∧ slotOf (rdAt 0xFF#8) = 0x3F#6 := by decide
theorem witness_WritesAt :
    (∀ off ∈ [0x3F#8, 0x40#8, 0x7F#8, 0x80#8, 0xFF#8], weOf (wrAt off 5#32) = true) ∧
    slotOf (wrAt 0x3F#8 5#32) = 0x0F#6 ∧ slotOf (wrAt 0x40#8 5#32) = 0x10#6 ∧ slotOf (wrAt 0x7F#8 5#32) = 0x1F#6 ∧
    slotOf (wrAt 0x80#8 5#32) = 0x20#6 ∧ slotOf (wrAt 0xFF#8 5#32) = 0x3F#6 ∧
    wdataOf (wrAt 0xFF#8 5#32) = 5#32 := by decide
theorem witness_CommandsAt :
    weOf (wr .cmd 0xF#32) = true ∧ slotOf (wr .cmd 0xF#32) = 0x01#6 ∧
    (wdataOf (wr .cmd 0x0#32)).extractLsb' 0 4 = 0x0#4 ∧ (wdataOf (wr .cmd 0x1#32)).extractLsb' 0 4 = 0x1#4 ∧
    (wdataOf (wr .cmd 0x2#32)).extractLsb' 0 4 = 0x2#4 ∧ (wdataOf (wr .cmd 0x3#32)).extractLsb' 0 4 = 0x3#4 ∧
    (wdataOf (wr .cmd 0x4#32)).extractLsb' 0 4 = 0x4#4 ∧ (wdataOf (wr .cmd 0x7#32)).extractLsb' 0 4 = 0x7#4 ∧
    (wdataOf (wr .cmd 0x8#32)).extractLsb' 0 4 = 0x8#4 ∧ (wdataOf (wr .cmd 0xF#32)).extractLsb' 0 4 = 0xF#4 := by
  decide
/-- WriteStatusClearsFlags over a cycle: a clear of DONE while IDLE, and one that meets the completion. -/
theorem witness_WriteStatusClearsFlags :
    let w := wr .status 0x2#32
    let s := { base with done := true, inputs := [accessInput w] }
    let u := { lastBit with inputs := [accessInput w] }
    (nextInput s).rstN = true ∧ accessOf (nextInput s) = some w ∧ decode w = .wrStatus true false false ∧
    (after s).done = false ∧ (nextInput u).rstN = true ∧ accessOf (nextInput u) = some w ∧ u.phase ≠ .idle ∧
    (after u).phase = .idle ∧ (after u).done = true := by decide
/-- OVR set by a dropped READ, kept by a read, cleared by a W1C write; ILL set and cleared. -/
theorem witness_MisuseFlagsAfterAccess :
    (∃ t, exec .wrCmdRead waiting = .next t ∧ t.ovr = true) ∧
    (∃ t, exec (.wrCtrl true false) waiting = .next t ∧ t.ovr = true) ∧
    (∃ t, exec .rdStatus { base with ovr := true } = .next t ∧ t.ovr = true) ∧
    (∃ t, exec (.wrStatus false true false) { base with ovr := true } = .next t ∧ t.ovr = false) ∧
    (∃ t, exec (.wrCmdRsvd8 0x8#4) base = .next t ∧ t.ill = true) ∧
    ∃ t, exec (.wrStatus false false true) { base with ill := true } = .next t ∧ t.ill = false :=
  ⟨⟨_, rfl, by decide⟩, ⟨_, rfl, by decide⟩, ⟨_, rfl, by decide⟩, ⟨_, rfl, by decide⟩, ⟨_, rfl, by decide⟩,
    ⟨_, rfl, by decide⟩⟩
theorem witness_StepRunsTheDecodedOperation :
    (accessOf (nextInput { base with inputs := [accessInput (rd .status)] }) = some (rd .status) ∧
      ∃ h, exec (decode (rd .status)) (beginCycle base) = .next h) ∧
    accessOf (nextInput idling) = none ∧
    (0x10400000001 < 2 ^ 41 ∧
      ∃ h, exec (decode (BitVec.ofNat 41 0x10400000001)) (beginCycle (base.withFetchWord 48 0x10400000001)) = .next h) :=
  ⟨⟨by decide, _, rfl⟩, by decide, by decide, _, rfl⟩
theorem witness_AccessNeedsSelectAndEnable :
    accessOf (accessInput 0x1FCFFFFFFFF#41) = some 0x1FCFFFFFFFF#41 ∧ accessOf (idleInput true true) = none := by
  decide
theorem witness_ResetWinsOverEverything :
    (nextInput { waiting with inputs := [{ accessInput (wr .cmd 1#32) with rstN := false }] }).rstN = false := by decide
/-- FreeRunningRegisters, with the prescaler at its end and below it. -/
theorem witness_FreeRunningRegisters :
    (nextInput idling).rstN = true ∧ idling.sdiv.toNat ≤ idling.presc.toNat ∧
    ¬ ({ idling with sdiv := 1#8 } : State).sdiv.toNat ≤ idling.presc.toNat := by decide
/-- The edge statements: an input out of reset, with and without an ms tick. -/
theorem witness_edge_inputs : (idleInput true false).rstN = true ∧ (idleInput true true).rstN = true := by decide
/-- SettleEdge: the last ms tick and one before it. -/
theorem witness_SettleEdge :
    let s := { base with phase := .settle, settle := 255#8, wcnt := 255#9 }
    s.phase = .settle ∧ s.wcnt = s.settle.setWidth 9 ∧ (254#9 : BitVec 9) ≠ s.settle.setWidth 9 := by decide
theorem witness_StartEdge : starting.phase = .start ∧ starting.wcnt = starting.startlow.setWidth 9 := by decide
theorem witness_ReleaseAndIdleEdge :
    ({ base with phase := .release } : State).phase = .release ∧ base.rel = false ∧ base.phase = .idle := by decide
theorem witness_legal_discarding : Legal { waiting with reldly := 255#8, sk := 255#8 } := by
  constructor <;> first | decide | simp [waiting, base, State.reset, ResultReg.reset, legalResult]
/-- AckWaitEdge: the last discarded tick done, a discarded tick, a low, an unbounded wait, the last and an earlier high of a bounded one. -/
theorem witness_AckWaitEdge :
    (waiting.phase = .ackWait ∧ ¬ waiting.presc.toNat < waiting.sdiv.toNat ∧
      waiting.aw + 1#16 = waiting.acklim ∧ waiting.sync2 = true) ∧
    waiting.sk.toNat < ({ waiting with reldly := 1#8 } : State).reldly.toNat ∧ busyLine.sync2 = false ∧
    busyLine.acklim = 0#16 ∧ waiting.aw + 1#16 ≠ ({ waiting with acklim := 2#16 } : State).acklim := by decide
theorem witness_AcknowledgementEdges :
    (inWindowState.phase = .ackLow ∧ inWindowState.c + 1#16 = inWindowState.budget ∧ inWindowState.sync2 = false) ∧
    ({ inWindowState with phase := .ackHigh } : State).phase = .ackHigh := by decide
theorem witness_CaptureEdge :
    (lastPulse.phase = .capture ∧ lastPulse.sync2 = decide (lastPulse.j.toNat % 2 = 1) ∧
      lastPulse.c + 1#16 = lastPulse.budget ∧ lastPulse.j = 79#7) ∧
    ({ lastPulse with j := 0#7 } : State).j ≠ 79#7 := by decide
theorem witness_AssembleEdge :
    lastBit.phase = .assemble ∧ lastBit.samp[2 * lastBit.i.toNat]? = some ⟨false, 0#16⟩ ∧
    lastBit.samp[2 * lastBit.i.toNat + 1]? = some ⟨false, 0#16⟩ := by decide
/-- PhaseGraph, OnlyCompletionChangesTheCache and the other statements about one step out of reset. -/
theorem witness_out_of_reset :
    (nextInput idling).rstN = true ∧ (nextInput waiting).rstN = true ∧ (nextInput inWindowState).rstN = true ∧
    (nextInput lastPulse).rstN = true ∧ (nextInput lastBit).rstN = true ∧ (nextInput starting).rstN = true := by decide
/-- PhaseGraph: a READ that is accepted and one that is rate-limited. -/
theorem witness_PhaseGraph_idle :
    let s := { idling with nowms := 5#32, minint := 2#32, inputs := [accessInput (wr .cmd 1#32)] }
    (accessOf (nextInput s)).map decode = some .wrCmdRead ∧
    ¬ (s.nowms - s.lasttime).toNat < s.minint.toNat ∧ (s.nowms - s.lasttime).toNat < (3#32 : Word).toNat := by decide
/-- PhaseGraph: the reset row. -/
theorem witness_PhaseGraph_reset :
    (nextInput { waiting with inputs := [{ idleInput true false with rstN := false }] }).rstN = false := by decide
/-- The three ways a transaction completes, and a step of each that does not. -/
theorem witness_CompletionUpdatesTheCache :
    (after waiting).phase = .idle ∧ (after inWindowState).phase = .idle ∧ (after lastBit).phase = .idle := by decide
theorem witness_OnlyCompletionChangesTheCache :
    idling.phase = .idle ∧ lastPulse.phase ≠ .idle ∧ (after lastPulse).phase ≠ .idle := by decide
theorem witness_ConfigurationIsFixedWhileBusy :
    waiting.phase ≠ .idle ∧ inWindowState.phase ≠ .idle ∧ starting.phase ≠ .idle := by decide
/-- CriticalWindowEdges: the rise, and the falls to IDLE and to ASSEMBLE. -/
theorem witness_CriticalWindowEdges :
    (busyLine.critQ = false ∧ (after busyLine).critQ = true) ∧
    (inWindowState.critQ = true ∧ (after inWindowState).phase = .idle) ∧ (after lastPulse).phase = .assemble := by decide
theorem witness_NoInterruptWhileBusy : waiting.phase ≠ .idle ∧ critO inWindowState = true := by decide
theorem witness_CacheKeptWithoutTransaction :
    OutOfReset idling 2 ∧ run 2 idling = .next (after (after idling)) ∧
    ∀ m u, m ≤ 2 → run m idling = .next u → u.phase = .idle := by
  refine ⟨by unfold OutOfReset; decide, by simp only [run_succ, run_zero], ?_⟩
  intro m u hm hu
  interval_cases m <;> simp only [run_succ, run_zero, Host.Outcome.next.injEq] at hu <;> subst hu <;> decide
theorem witness_UnboundedWaitNeverEnds :
    let s := { waiting with acklim := 0#16 }
    OutOfReset s 3 ∧ s.phase = .ackWait ∧ s.acklim = 0#16 ∧ s.sync1 = true ∧ s.sync2 = true ∧
    ∀ k, k < 3 → (inputAt s k).pinI = true := by unfold OutOfReset; decide
theorem witness_NoTickNoProgress :
    OutOfReset starting 3 ∧ starting.phase = .start ∧ ({ starting with phase := .settle } : State).phase = .settle ∧
    ∀ k, k < 3 → (inputAt starting k).tickMs = false := by unfold OutOfReset; decide
theorem witness_BoundedWaitEnds :
    OutOfReset waiting 1 ∧ waiting.phase = .ackWait ∧ waiting.acklim ≠ 0#16 ∧
    (waiting.reldly.toNat - waiting.sk.toNat) + (waiting.acklim.toNat - waiting.aw.toNat) ≤ ticksIn 1 waiting := by
  unfold OutOfReset; decide

/-- With SDIV = 0 and no access, every cycle is a sample tick. -/
theorem ticks_of_quiet (n : Nat) : ∀ s : State, s.inputs = quiet n → s.sdiv = 0#8 → ticksIn n s = n := by
  induction n with
  | zero => intro s _ _; rfl
  | succ n ih =>
    intro s hi hd
    have hin : nextInput s = idleInput true false := by rw [nextInput, hi]; rfl
    have hs := step_after s
    have ha : accessOf (nextInput s) = none := by rw [hin]; decide
    have hr : (nextInput s).rstN = true := by rw [hin]; rfl
    have he : step s = .next (edge (nextInput s) (beginCycle s) (beginCycle s)) := by simp only [step, ha]
    rw [he, Host.Outcome.next.injEq] at hs
    have h1 : (after s).sdiv = 0#8 := by
      rw [← hs, edge_out_of_reset hr, (unitStep_frame _ _ _).1.2.2.2.1]
      simpa using hd
    have h2 : (after s).inputs = quiet n := by
      rw [(step_model (step_after s)).1, hi]; rfl
    have h3 : tickS s = true := by rw [tickS_eq, hd]; simp
    simp only [ticksIn, h3, if_true, ih _ h2 h1]
    omega

theorem witness_CriticalWindowIsBounded :
    let s := { inWindowState with budget := 2#16, c := 1#16, inputs := quiet 164 }
    Legal s ∧ OutOfReset s 164 ∧ critO s = true ∧ 82 * s.budget.toNat ≤ ticksIn 164 s := by
  refine ⟨?_, by unfold OutOfReset; decide +kernel, by decide, ?_⟩
  · constructor <;> first | decide | simp [inWindowState, base, State.reset, ResultReg.reset, legalResult]
  · rw [ticks_of_quiet 164 _ rfl rfl]; decide
theorem witness_OldSamplesAreUnobservable : idling.phase ≠ .capture ∧ idling.phase ≠ .assemble := by decide
/-- MeasureIsRunLength: the tick that times out, one that goes on, and one that ends the pulse. -/
theorem witness_MeasureIsRunLength :
    2 ≤ (2#16 : Half).toNat ∧ (∀ l ∈ [true], l = true) ∧ [true].length < (2#16 : Half).toNat ∧
    ([] : List Level).length < (2#16 : Half).toNat := by decide
theorem witness_AssembleRefinesTheFold :
    firstBit.phase = .assemble ∧ firstBit.i = 0#6 ∧ firstBit.fb = zeroFrame ∧ OutOfReset firstBit 40 := by
  unfold OutOfReset; decide +kernel
/-- CycleRulesRefineTheFunction: the line is empty, and the wait times out. -/
theorem witness_CycleRulesRefineTheFunction :
    waiting.phase = .ackWait ∧ waiting.sk = waiting.reldly ∧ waiting.aw = 0#16 ∧ OutOfReset waiting 1 ∧
    run 1 waiting = .next (after waiting) ∧ (∀ m u, m < 1 → run m waiting = .next u → u.phase ≠ .idle) ∧
    txn waiting.budget.toNat waiting.acklim.toNat waiting.literal (lineOf 0 waiting) = none ∧
    txn waiting.budget.toNat waiting.acklim.toNat waiting.literal (lineOf 1 waiting) =
      some ⟨handshakeOutcome 1#2, 0, 0⟩ := by
  refine ⟨by decide, by decide, by decide, by unfold OutOfReset; decide, by simp only [run_succ, run_zero], ?_,
    by decide, by decide⟩
  intro m u hm hu
  interval_cases m
  simp only [run_zero, Host.Outcome.next.injEq] at hu
  subst hu
  decide
/-- CycleRulesRefineTheFunction: the whole capture, after which the block is in ASSEMBLE. -/
theorem witness_CycleRulesRefineTheFunction_capture :
    busyLine.phase = .ackWait ∧ busyLine.sk = busyLine.reldly ∧ busyLine.aw = 0#16 ∧ OutOfReset busyLine 83 ∧
    (∀ m u, m < 83 → run m busyLine = .next u → u.phase ≠ .idle) ∧
    ∃ e, txn busyLine.budget.toNat busyLine.acklim.toNat busyLine.literal (lineOf 83 busyLine) = some e ∧
      e.outcome.result.kind = .success ∧ e.assembleCycles = 40 := by
  refine ⟨by decide, by decide, by decide, by unfold OutOfReset; decide +kernel, ?_, ?_⟩
  · intro m u hm hu
    have h : ∀ m, m < 83 → (match run m busyLine with | .next u => decide (u.phase ≠ .idle) | _ => false) = true := by
      decide +kernel
    have := h m hm
    rw [hu] at this
    simpa using this
  · have h : (match txn busyLine.budget.toNat busyLine.acklim.toNat busyLine.literal (lineOf 83 busyLine) with
        | some e => decide (e.outcome.result.kind = .success ∧ e.assembleCycles = 40)
        | none => false) = true := by decide +kernel
    split at h
    · rename_i e he
      exact ⟨e, he, by simpa using h⟩
    · cases h
/-- An idle block in whose cycle a READ is accepted, with STARTLOW = 0 and L = 1. -/
def accepting : State :=
  { base with startlow := 0#8, acklim := 1#16, nowms := 7#32, inputs := accessInput (wr .cmd 1#32) :: quiet 4 }

theorem witness_legal_accepting : Legal accepting := by
  constructor <;> first | decide | simp [accepting, base, State.reset, ResultReg.reset, legalResult]
/-- AcceptedTransactionRefinesTheFunction: no tick of RELEASE is on the line, and the first of ACK_WAIT decides it. -/
theorem witness_AcceptedTransactionRefinesTheFunction :
    let a := after accepting
    accepting.phase = .idle ∧ (nextInput accepting).rstN = true ∧
    accessOf (nextInput accepting) = some (wr .cmd 1#32) ∧ decode (wr .cmd 1#32) = .wrCmdRead ∧
    limited accepting = false ∧ a.phase = .release ∧ (after a).phase = .release ∧ OutOfReset a 3 ∧
    (after (after a)).phase = .ackWait ∧ lineOf 2 a = [] ∧ txn 10 1 false (lineOf 2 a) = none ∧
    txn 10 1 false (lineOf 3 a) = some ⟨handshakeOutcome 1#2, 0, 0⟩ ∧ (after (after (after a))).phase = .idle ∧
    (after (after (after a))).lasttime = 7#32 := by unfold OutOfReset; decide +kernel
/-- HostProgramRunsCycleByCycle: a wait for `irq_o` that goes on and one that ends, a POLL of each kind. -/
theorem witness_HostProgramRunsCycleByCycle :
    weOf (rd .status) = false ∧ idling.done = false ∧ ({ idling with done := true, doneIe := true } : State).doneIe = true ∧
    prdata idling (addrOf (rd .status)) &&& 0x2#32 ≠ 0x2#32 ∧
    prdata { idling with done := true } (addrOf (rd .status)) &&& 0x2#32 = 0x2#32 := by decide
theorem witness_legal_idling_done : Legal { idling with done := true, doneIe := true } := by
  constructor <;> first | decide | simp [idling, base, legalResult]
/-- R26, R520: the wait makes no access, goes on while `irq_o` is 0 and ends once it is 1. -/
theorem test_awaitIrq :
    hostAccess .awaitIrq = none ∧ hostAdvance none (irqSeen waiting) [.awaitIrq] = [.awaitIrq] ∧
    hostAdvance none (irqSeen { idling with done := true, doneIe := true }) [.awaitIrq] = [] := by decide
/-- TransactionDecides: a bounded wait over a line of L + 82·B ticks, a low tick with 82·B after it, and no low. -/
theorem witness_TransactionDecides :
    (1 + 82 * 2 ≤ (List.replicate 165 true).length) ∧
    ((List.replicate 164 false)[0]? = some false ∧ 0 + 82 * 2 ≤ (List.replicate 164 false).length) ∧
    ∀ l ∈ [true, true], l = true := by decide +kernel
theorem witness_TransactionUsesOnlyItsPrefix :
    txn 4 3 false [true, true, true] = some ⟨handshakeOutcome 1#2, 2, 0⟩ ∧
    [true, true, true, false].take 3 = [true, true, true].take 3 := by decide
/-- Counts of one tick, but a TIMEOUT at pulse 79. -/
def lastTimesOut (k : Nat) : PulseResult := if k = 79 then .timeout else .count 1#16

/-- CorrectedModeReportsTheFirstTimeout: at bit 0, at the high half of bit 39, and not at all. -/
theorem witness_CorrectedModeReportsTheFirstTimeout :
    (PulseResult.timeout.isTimeout = true ∧ ∀ k, k < 2 * 0 → PulseResult.timeout.isTimeout = false) ∧
    (((lastTimesOut (2 * 39)).isTimeout || (lastTimesOut (2 * 39 + 1)).isTimeout) = true ∧
      ∀ k, k < 2 * 39 → (lastTimesOut k).isTimeout = false) ∧
    ∀ k, k < 80 → ((fun _ => PulseResult.count 1#16) k).isTimeout = false := by decide +kernel
/-- LiteralModeAcceptsEarly: a tie at bit 0, and V-ASM-4's first bit. -/
theorem witness_LiteralModeAcceptsEarly :
    (PulseResult.count 5#16).isTimeout = false ∧ (PulseResult.count 5#16).cnt.toNat ≤ (PulseResult.count 5#16).cnt.toNat ∧
    (PulseResult.count 5#16).cnt.toNat < (PulseResult.count 7#16).cnt.toNat := by decide
/-- LiteralModeAcceptsEarly, its second clause: the frame of V-ASM-4 completes SUCCESS after nine bits. -/
theorem witness_LiteralModeAcceptsEarly_nine :
    (assembly true fun k => if k % 2 = 0 ∨ 18 ≤ k then .count 5#16 else .count 7#16).1.result =
      ⟨.success, 9#6, false, 0#2⟩ := by decide
theorem witness_BytesAreMsbFirst : (0 < 5 ∧ 0 < 8) ∧ (4 < 5 ∧ 7 < 8) := by decide
/-- LiteralMode and CorrectedMode meet in a line of no timeouts: 40 equal pulses give the all-zero frame (V-ASM-8). -/
theorem test_all_zero_frame : (assembly false fun _ => .count 1#16).1.result = ⟨.success, 40#6, false, 0#2⟩ := by
  decide +kernel

end Sys2Proof.Tests
end

/-! # The cycle of a host program

What the next cycle's access does to the step, what a read returns, and with both the settlements of the statements on
the scope of the model (spec/00_scope.md). -/

section

namespace Sys2Proof.Machine

/-! ## The step, by the access of its cycle (R15, R102) -/

/-- The operation of the cycle's access runs before the edge. -/
theorem step_of_access {s h : State} {w : AccessWord} (ha : accessOf (nextInput s) = some w)
    (he : exec (decode w) (beginCycle s) = .next h) : step s = .next (edge (nextInput s) (beginCycle s) h) := by
  simp only [step, ha, he]

theorem step_of_no_access {s : State} (ha : accessOf (nextInput s) = none) :
    step s = .next (edge (nextInput s) (beginCycle s) (beginCycle s)) := by
  simp only [step, ha]

/-- No edge, not even a reset edge, touches the word a read returned (R53, R103). -/
@[simp] theorem edge_rdata (inp : Input) (s h : State) : (edge inp s h).rdata = h.rdata := by
  cases hr : inp.rstN with
  | true =>
    rw [edge_out_of_reset hr]
    obtain ⟨_, _, _, hrd, _⟩ := unitStep_frame inp s (freeRun inp s h)
    rw [hrd, freeRun_rdata]
  | false => rw [edge_in_reset hr, resetEdge_rdata]

/-! ## The access of a host's cycle (R102, R140) -/

/-- The fields WE, ADDR and WDATA are all of an access word. -/
theorem fields_append (w : AccessWord) : BitVec.ofBool (weOf w) ++ addrOf w ++ wdataOf w = w := by
  apply BitVec.eq_of_getLsbD_eq
  intro k hk
  simp only [weOf, addrOf, wdataOf, BitVec.getLsbD_append, BitVec.getLsbD_extractLsb', BitVec.getLsbD_ofBool]
  interval_cases k <;> simp

/-- The ports of a cycle with the access `w` carry `w`. -/
@[simp] theorem accessOf_accessInput (w : AccessWord) : accessOf (accessInput w) = some w :=
  congrArg some (fields_append w)

/-- In its cycle a host operation makes its access, or none. -/
theorem accessOf_hostInput (env : EnvInput) (op : HostOp) :
    accessOf (hostInput env (some op)) = hostAccess op := by
  cases op with
  | access w => exact accessOf_accessInput w
  | idle => rfl
  | poll w mask value => exact accessOf_accessInput w
  | awaitIrq => rfl

theorem accessOf_nextInput_withFetchWord (s : State) (nbits w : Nat) :
    accessOf (nextInput (s.withFetchWord nbits w)) = some (BitVec.ofNat 41 w) :=
  accessOf_accessInput _

/-! ## What a read returns (R103, R106) -/

/-- ADDR[7:2] is the word offset. -/
theorem extractLsb'_addrOf (w : AccessWord) : (addrOf w).extractLsb' 2 6 = slotOf w := by
  apply BitVec.eq_of_getLsbD_eq
  intro k hk
  simp only [addrOf, slotOf, BitVec.getLsbD_extractLsb']
  interval_cases k <;> simp

/-- A read by word offset answers the word on `prdata`, the same for every offset with those bits 7:2. -/
theorem exec_decodeRead (s : State) (off : Byte) :
    exec (decodeRead (off.extractLsb' 2 6)) s = respond (prdata s off) s := by
  unfold decodeRead prdata
  generalize (off.extractLsb' 2 6).toNat = n
  obtain hmapped | hunmapped := Nat.lt_or_ge n 16
  · interval_cases n <;> rfl
  · obtain ⟨m, rfl⟩ := Nat.exists_eq_add_of_le' hunmapped
    by_cases hm : m + 16 < 0x20 <;> simp [hm, exec, execRdUnmapped40, execRdUnmapped80]

/-- A read answers the word on `prdata` and changes no register. -/
theorem exec_read {w : AccessWord} (hw : weOf w = false) (s : State) :
    exec (decode w) s = .next { s with rdata := some (prdata s (addrOf w)) } := by
  rw [decode, hw, if_neg Bool.false_ne_true, ← extractLsb'_addrOf, exec_decodeRead, respond]

/-- Taking the cycle's inputs leaves `prdata` as it was. -/
@[simp] theorem prdata_beginCycle (s : State) (off : Byte) : prdata (beginCycle s) off = prdata s off := rfl

/-- After a cycle that reads, the model holds the word `prdata` carried in it: that of the pre-edge state. -/
theorem after_rdata_of_read {s : State} {w : AccessWord} (ha : accessOf (nextInput s) = some w)
    (hw : weOf w = false) : (after s).rdata = some (prdata s (addrOf w)) := by
  have hstep := step_of_access ha (exec_read hw (beginCycle s))
  rw [after, hstep]
  simp

/-- The same for a cycle whose inputs are put in front of the state's own. -/
theorem after_rdata_of_read_scheduled (s : State) {inp : Input} {w : AccessWord} (ha : accessOf inp = some w)
    (hw : weOf w = false) : (after { s with inputs := inp :: s.inputs }).rdata = some (prdata s (addrOf w)) :=
  after_rdata_of_read (s := { s with inputs := inp :: s.inputs }) ha hw

end Sys2Proof.Machine

namespace Sys2Proof.Proofs

open Sys2Proof.Machine

/-- Settles O60. Each operation is the general cycle of a host program (`hostCycle_cons`) with the test of its end put
in: none for an access, the word of the pre-edge state for a POLL (`after_rdata_of_read_scheduled`), and for the wait
the level that a legal state never masks (`irqSeen_eq`). -/
theorem hostProgramRunsCycleByCycle : Obligations.HostProgramRunsCycleByCycle := by
  intro env ops s hlegal _ next
  refine ⟨fun w => ⟨accessOf_hostInput env _, ?access⟩,
    fun w mask value hw => ⟨accessOf_hostInput env _, ?poll⟩,
    accessOf_hostInput env _, ?awaitIrq⟩
  case access => simp [hostCycle_cons, hostDone, next]
  case poll =>
    have hread := after_rdata_of_read_scheduled s (accessOf_hostInput env (.poll w mask value)) hw
    simp [hostCycle_cons, hostDone, hread, next]
  case awaitIrq => simp [hostCycle_cons, hostDone, irqSeen_eq hlegal, next]

/-- Settles O19: the two cases of the step, the first also for the access that `withFetchWord` puts in front. -/
theorem stepRunsTheDecodedOperation : Obligations.StepRunsTheDecodedOperation :=
  ⟨fun _ _ _ => step_of_access, fun _ => step_of_no_access,
    fun s _ nbits w _ => step_of_access (accessOf_nextInput_withFetchWord s nbits w)⟩

/-- Settles O21: the next state is the one `after` names. -/
theorem everyStepHasANextState : Obligations.EveryStepHasANextState :=
  fun s => ⟨after s, step_after s⟩

end Sys2Proof.Proofs
end

/-! # Legality through a cycle

Every step keeps a state legal (O39): what the host's access leaves is legal, the free-running registers do not matter,
and each unit goes from a legal state to a legal state. Before it, the small settlements on the state: its reset values
and its output ports (spec/10_state.md). -/

section

namespace Sys2Proof.Machine

/-! ## The reset state and the ports -/

/-- P_BUDGET_RESET is the one value of R560's table that is not fixed, and it is at least 2 (R565). -/
theorem atReset_reset : AtReset State.reset where
  phase := rfl
  ctrl := ⟨rfl, rfl⟩
  flags := ⟨rfl, rfl, rfl, rfl⟩
  crit := rfl
  haveResult := rfl
  result := ⟨rfl, rfl, rfl, rfl⟩
  fb _ hk := Vector.getElem_replicate hk
  times := ⟨rfl, rfl, rfl⟩
  budget := ⟨rfl, pBudgetReset_ge⟩
  configuration := ⟨rfl, rfl, rfl, rfl, rfl, rfl⟩
  counters := ⟨rfl, rfl, rfl, rfl, rfl, rfl, rfl, rfl⟩
  sync := ⟨rfl, rfl⟩

/-- No register is mapped from offset 0x3C on, and there `prdata` is 0 (R34, R234). -/
theorem prdata_unmapped (s : State) {off : Byte} (h : 0x3C ≤ off.toNat) : prdata s off = 0#32 := by
  have hslot : 0x0F ≤ (off.extractLsb' 2 6).toNat := by
    have := off.isLt
    rw [BitVec.extractLsb'_toNat, Nat.shiftRight_eq_div_pow]; omega
  obtain ⟨n, hn⟩ := Nat.exists_eq_add_of_le' hslot
  simp [prdata, hn]

theorem pinOe_iff (s : State) : pinOe s = true ↔ s.phase = .start := by simp [pinOe]

theorem pinPu_iff (s : State) : pinPu s = true ↔ s.phase ≠ .start := by simp [pinPu, pinOe]

theorem irqO_iff (s : State) : irqO s = true ↔ s.done = true ∧ s.doneIe = true := by simp [irqO]

/-! ## Legal states, phase by phase

Each phase bounds its own counters and says nothing of the others, so a legal state is given by `Carried` and the few
facts of the phase it is in. -/

/-- What `Legal` says, in a transaction, of the registers that no unit writes before the transaction completes. -/
structure Carried (s : State) : Prop where
  budget : 2 ≤ s.budget.toNat
  done : s.done = false
  cached : s.cached = false
  cache : s.haveResult = false ↔ s.result.kind = .none
  empty : s.haveResult = false → s.lasttime = 0#32
  result : legalResult s.result

theorem Legal.carried {s : State} (h : Legal s) (hp : s.phase ≠ .idle) : Carried s where
  budget := h.budget
  done := (h.notDone hp).1
  cached := (h.notDone hp).2
  cache := h.cache
  empty he := (h.empty he).1
  result := h.result

/-- From acceptance until ASSEMBLE the frame is zero. -/
theorem Legal.before_assemble {s : State} {p : Phase} (h : Legal s) (hp : s.phase = p) (hidle : p ≠ .idle)
    (hassemble : p ≠ .assemble) : Carried s ∧ s.critQ = inWindow p ∧ s.fb = zeroFrame := by
  subst hp
  exact ⟨h.carried hidle, h.crit, h.frameZero hidle hassemble⟩

/-- In IDLE only the budget, the window and the cache are constrained. -/
theorem legal_of_idle {s : State} (hp : s.phase = .idle) (hbudget : 2 ≤ s.budget.toNat) (hcrit : s.critQ = false)
    (hcache : s.haveResult = false ↔ s.result.kind = .none)
    (hempty : s.haveResult = false → s.lasttime = 0#32 ∧ s.done = false ∧ s.cached = false)
    (hresult : legalResult s.result) : Legal s := by
  constructor <;> simp_all [inWindow]

theorem Carried.legal_settle {s : State} (h : Carried s) (hp : s.phase = .settle) (hcrit : s.critQ = false)
    (hfb : s.fb = zeroFrame) (hsettle : s.settle ≠ 0#8) (hwcnt : s.wcnt.toNat ≤ s.settle.toNat) : Legal s := by
  obtain ⟨_, _, _, _, _, _⟩ := h
  constructor <;> simp_all [inWindow]

theorem Carried.legal_start {s : State} (h : Carried s) (hp : s.phase = .start) (hcrit : s.critQ = false)
    (hfb : s.fb = zeroFrame) (hstart : s.startlow ≠ 0#8) (hwcnt : s.wcnt.toNat ≤ s.startlow.toNat) : Legal s := by
  obtain ⟨_, _, _, _, _, _⟩ := h
  constructor <;> simp_all [inWindow]

theorem Carried.legal_release {s : State} (h : Carried s) (hp : s.phase = .release) (hcrit : s.critQ = false)
    (hfb : s.fb = zeroFrame) : Legal s := by
  obtain ⟨_, _, _, _, _, _⟩ := h
  constructor <;> simp_all [inWindow]

theorem Carried.legal_ackWait {s : State} (h : Carried s) (hp : s.phase = .ackWait) (hcrit : s.critQ = false)
    (hfb : s.fb = zeroFrame) (hsk : s.sk.toNat ≤ s.reldly.toNat)
    (haw : if s.acklim = 0#16 then s.aw = 0#16 else s.aw.toNat < s.acklim.toNat) : Legal s := by
  obtain ⟨_, _, _, _, _, _⟩ := h
  constructor <;> simp_all [inWindow]

theorem Carried.legal_ackPulse {s : State} (h : Carried s) (hp : s.phase = .ackLow ∨ s.phase = .ackHigh)
    (hcrit : s.critQ = true) (hfb : s.fb = zeroFrame) (hlt : s.c.toNat < s.budget.toNat) (hpos : 1 ≤ s.c.toNat) :
    Legal s := by
  obtain ⟨_, _, _, _, _, _⟩ := h
  obtain hp | hp := hp <;> constructor <;> simp_all [inWindow]

theorem Carried.legal_capture {s : State} (h : Carried s) (hp : s.phase = .capture) (hcrit : s.critQ = true)
    (hfb : s.fb = zeroFrame) (hlt : s.c.toNat < s.budget.toNat) (hj : s.j.toNat ≤ 79) : Legal s := by
  obtain ⟨_, _, _, _, _, _⟩ := h
  constructor <;> simp_all [inWindow]

theorem Carried.legal_assemble {s : State} (h : Carried s) (hp : s.phase = .assemble) (hcrit : s.critQ = false)
    (hi : s.i.toNat ≤ 39) (hfb : s.fb = frameAfter s.samp s.i.toNat)
    (hsamp : ∀ k, k < 2 * s.i.toNat → (sampleAt s.samp k).timedOut = false) : Legal s := by
  obtain ⟨_, _, _, _, _, _⟩ := h
  constructor <;> simp_all [inWindow]

/-- A completion with the fields of an outcome ends in a legal state (R420, R500). -/
theorem legal_complete {kind : Kind} {bits : BitVec 6} {half : Bool} {hsph : BitVec 2} {s h : State}
    (hbudget : 2 ≤ h.budget.toNat) (hkind : kind ≠ .none) (hresult : legalResult ⟨kind, bits, half, hsph⟩) :
    Legal (complete kind bits half hsph s h) :=
  legal_of_idle rfl hbudget rfl (by simp [hkind]) (by simp) hresult

/-! ## Outside the units -/

/-- Whatever a reset edge finds, it leaves a legal state (R512, R560). -/
theorem legal_resetEdge (s h : State) : Legal (resetEdge s h) :=
  legal_of_idle rfl pBudgetReset_ge rfl (iff_of_true rfl rfl) (fun _ => ⟨rfl, rfl, rfl⟩) rfl

theorem legal_beginCycle {s : State} (h : Legal s) : Legal (beginCycle s) := { h with }

/-- No promise of `Legal` is about a free-running register. -/
theorem legal_freeRun {h : State} (hh : Legal h) (inp : Input) (s : State) : Legal (freeRun inp s h) := { hh with }

/-- A rate-limited READ is answered only from a filled cache (R453, R455). -/
theorem legal_cachedReturn {s : State} (h : Legal s) (hp : s.phase = .idle) (hl : limited s = true) :
    Legal (cachedReturn s) := by
  have hfilled : s.haveResult = true := by
    simp only [limited, Bool.and_eq_true] at hl; exact hl.1
  exact legal_of_idle hp h.budget (h.crit.trans (by rw [hp]; rfl)) h.cache (by simp [hfilled]) h.result

/-- An accepted READ starts in the phase that the configuration asks for, with every counter and the frame 0 (R300). -/
theorem legal_accept {s : State} (h : Legal s) (hp : s.phase = .idle) : Legal (accept s) := by
  have hc : Carried (accept s) :=
    { h with done := rfl, cached := rfl, empty := fun he => (h.empty he).1 }
  have hcrit : s.critQ = false := h.crit.trans (by rw [hp]; rfl)
  obtain ⟨hf, hs⟩ | ⟨hf, -, hs⟩ | ⟨hf, -, -⟩ := firstPhase_cases s
  · exact hc.legal_settle hf hcrit rfl hs (Nat.zero_le _)
  · exact hc.legal_start hf hcrit rfl hs (Nat.zero_le _)
  · exact hc.legal_release hf hcrit rfl

/-- What an access in IDLE leaves is legal. -/
theorem legal_exec_idle {i : Instr} {s h : State} (hs : Legal s) (hp : s.phase = .idle) (he : exec i s = .next h) :
    Legal h := by
  obtain ⟨-, ⟨hl, rfl⟩ | ⟨-, rfl⟩⟩ | ⟨-, _, _, _, _, _, _, _, _, _, _, _, _, _, rfl, hdone, hb⟩ :=
    exec_idle hp he
  · exact legal_cachedReturn hs hp hl
  · exact legal_accept hs hp
  · refine legal_of_idle hp (hb.elim (fun hb => hb ▸ hs.budget) id) (hs.crit.trans (by rw [hp]; rfl)) hs.cache ?_
      hs.result
    intro hempty
    obtain ⟨hlast, hnot, hcached⟩ := hs.empty hempty
    exact ⟨hlast, Bool.eq_false_iff.mpr fun hd => by simp [hdone hd] at hnot, hcached⟩

/-- In a transaction an access leaves every register that `Legal` speaks of as it was, but for DONE, which it can only
clear. -/
theorem legal_access_busy {s : State} (hs : Legal s) (hp : s.phase ≠ .idle) (doneIe ovr ill : Bool)
    (rdata : Option Word) {done : Bool} (hd : done = true → s.done = true) :
    Legal { s with doneIe := doneIe, done := done, ovr := ovr, ill := ill, rdata := rdata } := by
  obtain ⟨hdone, hcached⟩ := hs.notDone hp
  have hnot : done = false := Bool.eq_false_iff.mpr fun h => by simp [hd h] at hdone
  exact { hs with
    notDone := fun _ => ⟨hnot, hcached⟩
    empty := fun he => ⟨(hs.empty he).1, hnot, hcached⟩ }

/-! ## The units

A unit reads the pre-edge state `s` and writes on `h`, which differs from `s` by the access and the free-running
registers alone. So the registers it reads and `Legal` speaks of can be read of `h`, and each lemma is about `h`. -/

/-- The pre-edge state `s` and the state `h` being built agree on the registers that `Legal` bounds. -/
structure Agree (s h : State) : Prop where
  phase : s.phase = h.phase
  budget : s.budget = h.budget
  settle : s.settle = h.settle
  startlow : s.startlow = h.startlow
  acklim : s.acklim = h.acklim
  reldly : s.reldly = h.reldly
  wcnt : s.wcnt = h.wcnt
  sk : s.sk = h.sk
  aw : s.aw = h.aw
  c : s.c = h.c
  j : s.j = h.j
  i : s.i = h.i
  fb : s.fb = h.fb
  samp : s.samp = h.samp

/-- Counting on by one adds at most 1, also where the counter wraps around. -/
theorem toNat_add_one_le {n : Nat} (a : BitVec n) : (a + 1#n).toNat ≤ a.toNat + 1 := by
  rw [BitVec.toNat_add, BitVec.toNat_ofNat]
  exact (Nat.mod_le _ _).trans (Nat.add_le_add_left (Nat.mod_le _ _) _)

/-- Counting on towards a bound that the next count does not meet stays below it. -/
theorem toNat_add_one_lt {n : Nat} {a b : BitVec n} (hlt : a.toNat < b.toNat) (hne : a + 1#n ≠ b) :
    (a + 1#n).toNat < b.toNat :=
  ((toNat_add_one_le a).trans hlt).lt_of_ne (BitVec.toNat_ne.mp hne)

/-- The next count of MEASURE is below the budget (R360). -/
theorem measureTick_lt (v pin : Level) {b c : Half} (hb : 2 ≤ b.toNat) (hc : c.toNat < b.toNat) :
    (measureTick v pin b c).2.toNat < b.toNat := by
  obtain ⟨-, -, hm⟩ | ⟨-, hne, hm⟩ | ⟨-, hm⟩ := measureTick_cases v pin b c <;> rw [hm]
  · exact Nat.zero_lt_of_lt hb
  · exact toNat_add_one_lt hc hne
  · exact hb

/-- Unless the pulse has timed out, the next count of MEASURE is at least 1 (R360). -/
theorem measureTick_pos {v pin : Level} {b c : Half} (hc : c.toNat < b.toNat)
    (hm : (measureTick v pin b c).1 ≠ some .timeout) : 1 ≤ (measureTick v pin b c).2.toNat := by
  obtain ⟨-, -, hm'⟩ | ⟨-, -, hm'⟩ | ⟨-, hm'⟩ := measureTick_cases v pin b c <;> rw [hm'] at hm ⊢
  · exact absurd rfl hm
  · have := b.isLt
    simp; omega
  · exact Nat.le_refl 1

theorem legal_settleStep {inp : Input} {s h : State} (hh : Legal h) (hw : Agree s h) (hp : h.phase = .settle) :
    Legal (settleStep inp s h) := by
  obtain ⟨hc, hcrit, hfb⟩ := hh.before_assemble hp nofun nofun
  obtain ⟨hset, hle⟩ := hh.settle hp
  simp only [settleStep, waitOver_eq, wcnt_eq_iff, hw.settle, hw.startlow, hw.wcnt, decide_eq_true_eq]
  split
  · split
    · by_cases hs : h.startlow = 0#8
      · exact Carried.legal_release { hc with } (by simp [hs]) hcrit hfb
      · exact Carried.legal_start { hc with } (by simp [hs]) hcrit hfb hs (Nat.zero_le _)
    · next hnot =>
      exact Carried.legal_settle { hc with } hp hcrit hfb hset
        ((toNat_add_one_le h.wcnt).trans (Nat.lt_of_le_of_ne hle hnot))
  · exact hh

theorem legal_startStep {inp : Input} {s h : State} (hh : Legal h) (hw : Agree s h) (hp : h.phase = .start) :
    Legal (startStep inp s h) := by
  obtain ⟨hc, hcrit, hfb⟩ := hh.before_assemble hp nofun nofun
  obtain ⟨hset, hle⟩ := hh.start hp
  simp only [startStep, waitOver_eq, wcnt_eq_iff, hw.startlow, hw.wcnt, decide_eq_true_eq]
  split
  · split
    · exact Carried.legal_release { hc with } rfl hcrit hfb
    · next hnot =>
      exact Carried.legal_start { hc with } hp hcrit hfb hset
        ((toNat_add_one_le h.wcnt).trans (Nat.lt_of_le_of_ne hle hnot))
  · exact hh

theorem legal_releaseStep {s h : State} (hh : Legal h) (hp : h.phase = .release) : Legal (releaseStep s h) := by
  obtain ⟨hc, hcrit, hfb⟩ := hh.before_assemble hp nofun nofun
  unfold releaseStep
  split
  · refine Carried.legal_ackWait { hc with } rfl hcrit hfb (Nat.zero_le _) ?_
    split
    · rfl
    · next hne => exact Nat.pos_of_ne_zero (BitVec.toNat_ne.mp hne)
  · exact Carried.legal_release { hc with } hp hcrit hfb

theorem legal_ackWaitStep {s h : State} (hh : Legal h) (hw : Agree s h) (hp : h.phase = .ackWait) :
    Legal (ackWaitStep s h) := by
  obtain ⟨hc, hcrit, hfb⟩ := hh.before_assemble hp nofun nofun
  have hsk := hh.discarded hp
  have haw := hh.waited hp
  simp only [ackWaitStep, hw.sk, hw.reldly, hw.acklim, hw.aw]
  split_ifs with htick hdiscard hever hlow hfree hlast
  · exact Carried.legal_ackWait { hc with } hp hcrit hfb ((toNat_add_one_le h.sk).trans hdiscard) haw
  · exact hh
  · exact Carried.legal_ackPulse { hc with } (.inl rfl) rfl hfb hc.budget (Nat.le_refl 1)
  · exact hh
  · exact legal_complete hc.budget nofun ⟨rfl, rfl, by decide⟩
  · rw [if_neg hfree] at haw
    refine Carried.legal_ackWait { hc with } hp hcrit hfb hsk ?_
    rw [if_neg hfree]
    exact toNat_add_one_lt haw hlast
  · exact hh

theorem legal_ackLowStep {s h : State} (hh : Legal h) (hw : Agree s h) (hp : h.phase = .ackLow) :
    Legal (ackLowStep s h) := by
  obtain ⟨hc, hcrit, hfb⟩ := hh.before_assemble hp nofun nofun
  have hbelow : h.c.toNat < h.budget.toNat := hh.count (by rw [hp]; rfl)
  have hlt := measureTick_lt false (pinS s) hc.budget hbelow
  have hpos := measureTick_pos (v := false) (pin := pinS s) hbelow
  simp only [ackLowStep, hw.budget, hw.c]
  generalize measureTick false (pinS s) h.budget h.c = m at hlt hpos ⊢
  split
  · split
    · next hm => exact Carried.legal_ackPulse { hc with } (.inl hp) hcrit hfb hlt (hpos (by simp [hm]))
    · exact legal_complete hc.budget nofun ⟨rfl, rfl, by decide⟩
    · next hm => exact Carried.legal_ackPulse { hc with } (.inr rfl) hcrit hfb hlt (hpos (by simp [hm]))
  · exact hh

theorem legal_ackHighStep {s h : State} (hh : Legal h) (hw : Agree s h) (hp : h.phase = .ackHigh) :
    Legal (ackHighStep s h) := by
  obtain ⟨hc, hcrit, hfb⟩ := hh.before_assemble hp nofun nofun
  have hbelow : h.c.toNat < h.budget.toNat := hh.count (by rw [hp]; rfl)
  have hlt := measureTick_lt true (pinS s) hc.budget hbelow
  have hpos := measureTick_pos (v := true) (pin := pinS s) hbelow
  simp only [ackHighStep, hw.budget, hw.c]
  generalize measureTick true (pinS s) h.budget h.c = m at hlt hpos ⊢
  split
  · split
    · next hm => exact Carried.legal_ackPulse { hc with } (.inr hp) hcrit hfb hlt (hpos (by simp [hm]))
    · exact legal_complete hc.budget nofun ⟨rfl, rfl, by decide⟩
    · exact Carried.legal_capture { hc with } rfl hcrit hfb hlt (Nat.zero_le _)
  · exact hh

/-- CAPTURE counts its pulses up to 79, then leaves for ASSEMBLE with the frame still zero, no bit yet folded. -/
theorem legal_captureStep {s h : State} (hh : Legal h) (hw : Agree s h) (hp : h.phase = .capture) :
    Legal (captureStep s h) := by
  obtain ⟨hc, hcrit, hfb⟩ := hh.before_assemble hp nofun nofun
  have hlt := measureTick_lt (captureLevel s) (pinS s) hc.budget (hh.count (by rw [hp]; rfl))
  have hj := hh.pulse hp
  simp only [captureStep, hw.budget, hw.c, hw.j]
  generalize measureTick (captureLevel s) (pinS s) h.budget h.c = m at hlt ⊢
  split
  · split
    · exact Carried.legal_capture { hc with } hp hcrit hfb hlt hj
    · split
      · exact Carried.legal_assemble { hc with } rfl rfl (Nat.zero_le _) hfb nofun
      · next hlast =>
        refine Carried.legal_capture { hc with } hp hcrit hfb hlt ?_
        have hne : h.j.toNat ≠ 79 := BitVec.toNat_ne.mp hlast
        exact (toNat_add_one_le h.j).trans (by omega)
  · exact hh

theorem frameAfter_succ (samp : Vector Sample 80) (m : Nat) :
    frameAfter samp (m + 1) = foldBit (frameAfter samp m) (m / 8)
      (classify (sampleAt samp (2 * m)).cnt (sampleAt samp (2 * m + 1)).cnt) := rfl

/-- Bit i is folded into the frame of the first i bits only if neither of its samples has timed out (R406, R410). -/
theorem legal_assembleStep {s h : State} (hh : Legal h) (hw : Agree s h) (hp : h.phase = .assemble) :
    Legal (assembleStep s h) := by
  have hc := hh.carried (by simp [hp])
  have hcrit : h.critQ = false := hh.crit.trans (by rw [hp]; rfl)
  have hi := hh.bit hp
  obtain ⟨hfb, hsamp⟩ := hh.frame hp
  have hnext : (h.i + 1#6).toNat = h.i.toNat + 1 := by simp; omega
  simp only [assembleStep, hw.samp, hw.i, hw.fb, bitLane]
  split_ifs with hout hfirst hlast hok
  · exact legal_complete hc.budget nofun ⟨hi, rfl⟩
  · exact legal_complete hc.budget nofun ⟨hnext ▸ Nat.le_add_left 1 _, hnext ▸ Nat.add_le_add_right hi 1, rfl, rfl⟩
  · exact legal_complete hc.budget nofun ⟨by decide, by decide, rfl, rfl⟩
  · exact legal_complete hc.budget nofun ⟨rfl, rfl, rfl⟩
  · have hne : h.i.toNat ≠ 39 := BitVec.toNat_ne.mp hlast
    refine Carried.legal_assemble { hc with } hp hcrit ?_ ?_ ?_ <;> simp only [hnext]
    · omega
    · rw [frameAfter_succ, hfb]
    · intro k hk
      simp only [Bool.or_eq_true, not_or, Bool.not_eq_true] at hout
      obtain hk | rfl | rfl : k < 2 * h.i.toNat ∨ k = 2 * h.i.toNat ∨ k = 2 * h.i.toNat + 1 := by omega
      · exact hsamp k hk
      · exact hout.1
      · exact hout.2

/-- The unit that PHASE selects goes from a legal state to a legal state. -/
theorem legal_unitStep (inp : Input) {s h : State} (hh : Legal h) (hw : Agree s h) : Legal (unitStep inp s h) := by
  unfold unitStep
  cases hp : s.phase <;> rw [hw.phase] at hp
  case idle => exact hh
  case settle => exact legal_settleStep hh hw hp
  case start => exact legal_startStep hh hw hp
  case release => exact legal_releaseStep hh hp
  case ackWait => exact legal_ackWaitStep hh hw hp
  case ackLow => exact legal_ackLowStep hh hw hp
  case ackHigh => exact legal_ackHighStep hh hw hp
  case capture => exact legal_captureStep hh hw hp
  case assemble => exact legal_assembleStep hh hw hp

/-! ## The step -/

/-- A cycle in reset ends in a reset edge, whatever its access (R512). -/
theorem step_reset {s t : State} (hr : (nextInput s).rstN = false) (he : step s = .next t) :
    ∃ h, t = resetEdge (beginCycle s) h := by
  obtain ⟨h, hstep, -⟩ := step_eq s
  rw [hstep, edge_in_reset hr, Host.Outcome.next.injEq] at he
  exact ⟨h, he.symm⟩

theorem legal_step_idle {s t : State} (hs : Legal s) (hr : (nextInput s).rstN = true) (hp : s.phase = .idle)
    (he : step s = .next t) : Legal t := by
  obtain ⟨h, rfl, ⟨-, rfl⟩ | ⟨w, -, hexec⟩⟩ := step_idle hr hp he
  · exact legal_freeRun (legal_beginCycle hs) _ _
  · exact legal_freeRun (legal_exec_idle (legal_beginCycle hs) hp hexec) _ _

theorem legal_step_busy {s t : State} (hs : Legal s) (hr : (nextInput s).rstN = true) (hp : s.phase ≠ .idle)
    (he : step s = .next t) : Legal t := by
  obtain ⟨doneIe, done, ovr, ill, rdata, rfl, hdone⟩ := step_busy hr hp he
  refine legal_unitStep _ (legal_freeRun ?_ _ _) ⟨rfl, rfl, rfl, rfl, rfl, rfl, rfl, rfl, rfl, rfl, rfl, rfl, rfl, rfl⟩
  exact legal_access_busy (legal_beginCycle hs) hp doneIe ovr ill rdata hdone

end Sys2Proof.Machine

namespace Sys2Proof.Proofs

open Sys2Proof.Machine

/-- Settles O39, by the three kinds of cycle: in reset, in IDLE and in a transaction. -/
theorem everyStepKeepsTheStateLegal : Obligations.EveryStepKeepsTheStateLegal := by
  intro s t hs he
  cases hr : (nextInput s).rstN with
  | false =>
    obtain ⟨h, rfl⟩ := step_reset hr he
    exact legal_resetEdge _ h
  | true =>
    by_cases hp : s.phase = .idle
    · exact legal_step_idle hs hr hp he
    · exact legal_step_busy hs hr hp he

/-- Settles O23: the registers are those of R560's table, and from offset 0x3C on none is mapped. -/
theorem resetStateIsTheTable : Obligations.ResetStateIsTheTable := by
  refine ⟨atReset_reset, ?zeros, ?csok, ?budget, rfl, rfl, fun _ => prdata_unmapped State.reset⟩
  case zeros => decide
  case csok => decide
  case budget => simp [prdata, State.reset]; omega

/-- Settles O25. -/
theorem outputsAreFunctionsOfState : Obligations.OutputsAreFunctionsOfState :=
  fun s => ⟨pinOe_iff s, rfl, pinPu_iff s, rfl, irqO_iff s, rfl, rfl⟩

end Sys2Proof.Proofs
end

/-! # The bus access

When a cycle makes an access and which word it is (spec/20_memory.md), and which of the word's bits count. -/

section

namespace Sys2Proof.Machine

theorem accessOf_eq_none_iff (inp : Input) : accessOf inp = none ↔ inp.psel = false ∨ inp.penable = false := by
  rw [accessOf, ite_eq_right_iff, imp_iff_not (Option.some_ne_none _), Bool.not_eq_true, Bool.and_eq_false_iff]

/-- Whatever the access of a cycle is, it is the word on the bus. -/
theorem eq_busWord_of_accessOf {inp : Input} {w : AccessWord} (ha : accessOf inp = some w) : w = busWord inp := by
  obtain ⟨-, hw⟩ := Option.ite_none_right_eq_some.mp ha
  exact (Option.some.inj hw).symm

/-- WE at bit 40, ADDR from bit 32, WDATA from bit 0 (R140). -/
theorem busWord_toNat (inp : Input) :
    (busWord inp).toNat = inp.pwrite.toNat * 2 ^ 40 + inp.paddr.toNat * 2 ^ 32 + inp.pwdata.toNat := by
  rw [busWord, toNat_append_eq, toNat_append_eq, BitVec.toNat_ofBool]
  omega

end Sys2Proof.Machine

namespace Sys2Proof.Proofs

open Sys2Proof.Machine

/-- Settles O3: a word decodes by its fields (`decode_append`), of which ADDR[1:0] is none, and WDATA none of a read's. -/
theorem dontCareBitsAreIgnored : Obligations.DontCareBitsAreIgnored := by
  intro we slot low low' d d'
  exact ⟨by rw [decode_append, decode_append], by simp only [decode_append, Bool.false_eq_true, if_false]⟩

/-- Settles O9: a read decodes to the row of its word offset, whose meaning answers that register's word (`exec_read`). -/
theorem anyReadReturnsItsRegister : Obligations.AnyReadReturnsItsRegister :=
  fun s _ hw => exec_read hw s

/-- Settles O20. -/
theorem accessNeedsSelectAndEnable : Obligations.AccessNeedsSelectAndEnable := by
  intro inp
  refine ⟨accessOf_eq_none_iff inp, fun w ha => ?_⟩
  rw [eq_busWord_of_accessOf ha, busWord_toNat]

end Sys2Proof.Proofs
end


/-! # The encoding

The decoder against the encoder and against the 40 rows of spec/opcode_table.json (spec/30_encoding.md). -/

section

namespace Sys2Proof

/-! ## Decoding an operand that its row fixes in part (R207, R234, R235) -/

theorem decodeCmd_rsvd2 : ∀ op, inRsvd2 op = true → decodeCmd op = .wrCmdRsvd2 op := by decide

theorem decodeCmd_rsvd4 : ∀ op, inRsvd4 op = true → decodeCmd op = .wrCmdRsvd4 op := by decide

theorem decodeCmd_rsvd8 : ∀ op, inRsvd8 op = true → decodeCmd op = .wrCmdRsvd8 op := by decide

theorem decodeRead_unmapped40 : ∀ slot, inUnmapped40 slot = true → decodeRead slot = .rdUnmapped40 slot := by decide

theorem decodeRead_unmapped80 : ∀ slot, inUnmapped80 slot = true → decodeRead slot = .rdUnmapped80 slot := by decide

theorem decodeWrite_unmapped40 :
    ∀ slot, inUnmapped40 slot = true → decodeWrite slot 0#32 = .wrUnmapped40 slot := by decide

theorem decodeWrite_unmapped80 :
    ∀ slot, inUnmapped80 slot = true → decodeWrite slot 0#32 = .wrUnmapped80 slot := by decide

/-! ## Decoding what `encode` puts into WDATA -/

/-- A write to CMD decodes by its low four bits, whatever stands above them (R151). -/
theorem decode_writeCmd (high : BitVec 28) (op : BitVec 4) :
    decode (writeWord 0x01#6 (high ++ op)) = decodeCmd op :=
  (decode_writeWord 0x01#6 _).trans (congrArg decodeCmd BitVec.extractLsb'_append_eq_right)

theorem decodeWrite_ctrlData (literal doneIe : Bool) :
    decodeWrite 0x00#6 (ctrlData literal doneIe) = .wrCtrl literal doneIe := by
  cases literal <;> cases doneIe <;> rfl

theorem decodeWrite_statusData (clrDone clrOvr clrIll : Bool) :
    decodeWrite 0x02#6 (statusData clrDone clrOvr clrIll) = .wrStatus clrDone clrOvr clrIll := by
  cases clrDone <;> cases clrOvr <;> cases clrIll <;> rfl

/-- No operand bit is dropped by `encode` or by `decode`. -/
theorem decode_encode {i : Instr} (hwf : i.wf = true) : decode (encode i) = i := by
  cases i with
  | rdCtrl | rdCmd | rdStatus | rdResult | rdData0 | rdData1 | rdBudget | rdSdiv | rdMinint | rdStartlow | rdSettle
  | rdAcklim | rdReldly | rdNowms | rdLasttime | rdUnmapped3C => exact decode_readWord _
  | rdUnmapped40 slot => exact (decode_readWord slot).trans (decodeRead_unmapped40 slot hwf)
  | rdUnmapped80 slot => exact (decode_readWord slot).trans (decodeRead_unmapped80 slot hwf)
  | wrCmdNop | wrCmdRead | wrResult | wrData0 | wrData1 | wrMinint | wrNowms | wrLasttime | wrUnmapped3C =>
    exact decode_writeWord _ _
  | wrCtrl literal doneIe => exact (decode_writeWord _ _).trans (decodeWrite_ctrlData literal doneIe)
  | wrStatus clrDone clrOvr clrIll =>
    exact (decode_writeWord _ _).trans (decodeWrite_statusData clrDone clrOvr clrIll)
  | wrCmdRsvd2 op => exact (decode_writeCmd _ op).trans (decodeCmd_rsvd2 op hwf)
  | wrCmdRsvd4 op => exact (decode_writeCmd _ op).trans (decodeCmd_rsvd4 op hwf)
  | wrCmdRsvd8 op => exact (decode_writeCmd _ op).trans (decodeCmd_rsvd8 op hwf)
  | wrBudget | wrAcklim | wrSdiv | wrStartlow | wrSettle | wrReldly =>
    rw [encode, decode_writeWord]
    exact congrArg _ BitVec.extractLsb'_append_eq_right
  | wrUnmapped40 slot => exact (decode_writeWord slot _).trans (decodeWrite_unmapped40 slot hwf)
  | wrUnmapped80 slot => exact (decode_writeWord slot _).trans (decodeWrite_unmapped80 slot hwf)

/-! ## Writes outside CMD

Of a write's WDATA only CMD.OP selects a row (R151), so that any other write can be examined with WDATA = 0. -/

/-- Outside CMD neither the row nor the well-formedness of the decoded operation depends on WDATA. -/
theorem decodeWrite_zero {slot : Slot} (hcmd : slot ≠ 0x01#6) (d : Word) :
    rowIndex (decodeWrite slot d) = rowIndex (decodeWrite slot 0#32) ∧
      (decodeWrite slot d).wf = (decodeWrite slot 0#32).wf := by
  have hne : slot.toNat ≠ 1 := BitVec.toNat_ne.mp hcmd
  unfold decodeWrite
  split
  case h_2 heq => exact absurd heq hne
  all_goals exact ⟨rfl, rfl⟩

/-! ## A decoded operation is well formed -/

theorem decodeRead_wf : ∀ slot, (decodeRead slot).wf = true := by decide

theorem decodeCmd_wf : ∀ op, (decodeCmd op).wf = true := by decide

theorem decodeWrite_zero_wf : ∀ slot, (decodeWrite slot 0#32).wf = true := by decide

theorem decodeWrite_wf (slot : Slot) (d : Word) : (decodeWrite slot d).wf = true := by
  by_cases hcmd : slot = 0x01#6
  · subst hcmd
    exact decodeCmd_wf _
  · rw [(decodeWrite_zero hcmd d).2]
    exact decodeWrite_zero_wf slot

theorem decode_wf (w : AccessWord) : (decode w).wf = true := by
  unfold decode
  split
  · exact decodeWrite_wf _ _
  · exact decodeRead_wf _

/-! ## No word lies in two rows

Two rows are apart when their patterns differ in a bit that both masks read. -/

def OpcodeRow.Apart (r q : OpcodeRow) : Prop := r.pattern &&& q.mask ≠ q.pattern &&& r.mask

theorem OpcodeRow.Apart.not_inRow {r q : OpcodeRow} (h : r.Apart q) {w : AccessWord} (hr : inRow r w = true) :
    inRow q w ≠ true := by
  intro hq
  rw [inRow, beq_iff_eq] at hr hq
  refine h ?_
  rw [← hr, ← hq, BitVec.and_assoc, BitVec.and_assoc, BitVec.and_comm r.mask]

theorem opcodeTable_apart : opcodeTable.Pairwise OpcodeRow.Apart := by
  unfold OpcodeRow.Apart
  decide

/-- The rows of a word are one row. -/
theorem row_unique {j k : Nat} {r q : OpcodeRow} {w : AccessWord} (hj : opcodeTable[j]? = some r)
    (hk : opcodeTable[k]? = some q) (hr : inRow r w = true) (hq : inRow q w = true) : j = k := by
  obtain ⟨hjlt, rfl⟩ := List.getElem?_eq_some_iff.mp hj
  obtain ⟨hklt, rfl⟩ := List.getElem?_eq_some_iff.mp hk
  have hapart := List.pairwise_iff_getElem.mp opcodeTable_apart
  obtain hlt | heq | hgt := Nat.lt_trichotomy j k
  · exact absurd hq ((hapart j k hjlt hklt hlt).not_inRow hr)
  · exact heq
  · exact absurd hr ((hapart k j hklt hjlt hgt).not_inRow hq)

/-! ## Every word lies in the row of its operation -/

/-- The bits WE and ADDR[7:2], all that a row outside the writes to CMD reads. -/
def offsetBits : AccessWord := 0x1FC00000000#41

/-- The bits WE, ADDR[7:2] and CMD.OP, all that a row of a write to CMD reads. -/
def cmdBits : AccessWord := 0x1FC0000000F#41

theorem and_offsetBits (w : AccessWord) :
    w &&& offsetBits = BitVec.ofBool (weOf w) ++ slotOf w ++ 0#34 := by
  apply BitVec.eq_of_getLsbD_eq
  intro k hk
  simp only [offsetBits, weOf, slotOf, BitVec.getLsbD_and, BitVec.getLsbD_append, BitVec.getLsbD_extractLsb',
    BitVec.getLsbD_ofBool]
  interval_cases k <;> simp

theorem and_cmdBits (w : AccessWord) :
    w &&& cmdBits = BitVec.ofBool (weOf w) ++ slotOf w ++ 0#30 ++ (wdataOf w).extractLsb' 0 4 := by
  apply BitVec.eq_of_getLsbD_eq
  intro k hk
  simp only [cmdBits, weOf, slotOf, wdataOf, BitVec.getLsbD_and, BitVec.getLsbD_append, BitVec.getLsbD_extractLsb',
    BitVec.getLsbD_ofBool]
  interval_cases k <;> simp

/-- Row k reads no bit outside `m`, and `v`, which stands for the bits `m` of a word, lies in it. -/
def rowHolds (k : Nat) (m v : AccessWord) : Bool :=
  opcodeTable[k]?.any fun r => m &&& r.mask == r.mask && inRow r v

theorem inRow_of_rowHolds {k : Nat} {m w : AccessWord} (h : rowHolds k m (w &&& m) = true) :
    ∃ r, opcodeTable[k]? = some r ∧ inRow r w = true := by
  obtain ⟨r, hr, hrow⟩ := (Option.any_eq_true _ _).mp h
  rw [Bool.and_eq_true, beq_iff_eq] at hrow
  obtain ⟨hmask, hin⟩ := hrow
  rw [inRow, BitVec.and_assoc, hmask] at hin
  exact ⟨r, hr, hin⟩

theorem rowHolds_decodeRead :
    ∀ slot, rowHolds (rowIndex (decodeRead slot)) offsetBits (BitVec.ofBool false ++ slot ++ 0#34) = true := by decide

theorem rowHolds_decodeWrite_zero :
    ∀ slot, slot ≠ 0x01#6 →
      rowHolds (rowIndex (decodeWrite slot 0#32)) offsetBits (BitVec.ofBool true ++ slot ++ 0#34) = true := by decide

theorem rowHolds_decodeCmd :
    ∀ op, rowHolds (rowIndex (decodeCmd op)) cmdBits (BitVec.ofBool true ++ 0x01#6 ++ 0#30 ++ op) = true := by decide

theorem inRow_decode (w : AccessWord) :
    ∃ r, opcodeTable[rowIndex (decode w)]? = some r ∧ inRow r w = true := by
  cases hwe : weOf w with
  | false =>
    apply inRow_of_rowHolds (m := offsetBits)
    rw [and_offsetBits, decode, hwe]
    exact rowHolds_decodeRead _
  | true =>
    rw [decode, hwe, if_pos rfl]
    by_cases hcmd : slotOf w = 0x01#6
    · apply inRow_of_rowHolds (m := cmdBits)
      rw [and_cmdBits, hwe, hcmd]
      exact rowHolds_decodeCmd _
    · apply inRow_of_rowHolds (m := offsetBits)
      rw [and_offsetBits, hwe, (decodeWrite_zero hcmd _).1]
      exact rowHolds_decodeWrite_zero _ hcmd

end Sys2Proof

namespace Sys2Proof.Proofs

/-- Settles O4, case by case of the operation (`decode_encode`). -/
theorem decodeOfEncodeIsIdentity : Obligations.DecodeOfEncodeIsIdentity :=
  fun _ => decode_encode

/-- Settles O2: a word lies in the row of its operation (`inRow_decode`), and in no other, since the rows are pairwise
apart (`row_unique`). -/
theorem everyWordHasExactlyOneRow : Obligations.EveryWordHasExactlyOneRow := by
  intro w
  obtain ⟨own, hown, hin⟩ := inRow_decode w
  refine ⟨decode_wf w, (List.getElem?_eq_some_iff.mp hown).1, fun k r hk => ⟨fun hr => ?_, ?_⟩⟩
  · exact row_unique hk hown hr hin
  · rintro rfl
    rwa [Option.some.inj (hk.symm.trans hown)]

/-- Settles O1, by running the decoder on each word. -/
theorem listedWordsDecode : Obligations.ListedWordsDecode := by
  unfold Obligations.ListedWordsDecode
  decide

/-- Settles O58, by running the encoder on each access. -/
theorem pseudoInstructionWords : Obligations.PseudoInstructionWords := by
  unfold Obligations.PseudoInstructionWords
  decide

end Sys2Proof.Proofs
end

/-! # The host operations

Each register access against its rule: which words are the operation, the word a read returns, and the whole next state
(spec/40_host_operations.md). -/

section

namespace Sys2Proof

/-! ## The rows that a range of operands shares (R207, R234, R235) -/

theorem inRsvd2_iff : ∀ op, inRsvd2 op = true ↔ 0x2 ≤ op.toNat ∧ op.toNat ≤ 0x3 := by decide

theorem inRsvd4_iff : ∀ op, inRsvd4 op = true ↔ 0x4 ≤ op.toNat ∧ op.toNat ≤ 0x7 := by decide

theorem inRsvd8_iff : ∀ op, inRsvd8 op = true ↔ 0x8 ≤ op.toNat := by decide

theorem inUnmapped40_iff : ∀ slot, inUnmapped40 slot = true ↔ 0x10 ≤ slot.toNat ∧ slot.toNat ≤ 0x1F := by decide

theorem inUnmapped80_iff : ∀ slot, inUnmapped80 slot = true ↔ 0x20 ≤ slot.toNat := by decide

/-- From NOWMS on no write has an operand in WDATA (R231, R233, R235). -/
theorem decodeWrite_without_data {slot : Slot} (hslot : 0x0D ≤ slot.toNat) (d : Word) :
    decodeWrite slot d = decodeWrite slot 0#32 := by
  unfold decodeWrite
  generalize slot.toNat = n at hslot
  obtain hlow | hhigh := Nat.lt_or_ge n 0x10
  · interval_cases n <;> rfl
  · obtain ⟨m, rfl⟩ := Nat.exists_eq_add_of_le' hhigh
    rfl

end Sys2Proof

namespace Sys2Proof.Machine

/-! ## Which words are an operation (R150, R151) -/

theorem readsAt_decodeRead (slot : Slot) : ReadsAt slot (decodeRead slot) := by
  rintro w hwe rfl
  rw [decode, hwe, if_neg Bool.false_ne_true]

theorem writesAt_decodeWrite (slot : Slot) : WritesAt slot (decodeWrite slot) := by
  rintro w hwe rfl
  rw [decode, hwe, if_pos rfl]

/-- Whatever `decodeCmd` makes of the OPs in `p`, the writes to CMD with those OPs are. -/
theorem commandsAt {p : BitVec 4 → Prop} {f : BitVec 4 → Instr} (hf : ∀ op, p op → decodeCmd op = f op) :
    CommandsAt p f := by
  intro w hwe hslot hop
  rw [← hf _ hop]
  exact writesAt_decodeWrite 0x01#6 w hwe hslot

theorem readsAt_unmapped40 {slot : Slot} (hlo : 0x10 ≤ slot.toNat) (hhi : slot.toNat ≤ 0x1F) :
    ReadsAt slot (.rdUnmapped40 slot) := by
  rw [← decodeRead_unmapped40 slot ((inUnmapped40_iff slot).mpr ⟨hlo, hhi⟩)]
  exact readsAt_decodeRead slot

theorem readsAt_unmapped80 {slot : Slot} (hlo : 0x20 ≤ slot.toNat) : ReadsAt slot (.rdUnmapped80 slot) := by
  rw [← decodeRead_unmapped80 slot ((inUnmapped80_iff slot).mpr hlo)]
  exact readsAt_decodeRead slot

theorem writesAt_unmapped40 {slot : Slot} (hlo : 0x10 ≤ slot.toNat) (hhi : slot.toNat ≤ 0x1F) :
    WritesAt slot fun _ => .wrUnmapped40 slot := by
  intro w hwe hslot
  rw [writesAt_decodeWrite slot w hwe hslot, decodeWrite_without_data (by omega)]
  exact decodeWrite_unmapped40 slot ((inUnmapped40_iff slot).mpr ⟨hlo, hhi⟩)

theorem writesAt_unmapped80 {slot : Slot} (hlo : 0x20 ≤ slot.toNat) :
    WritesAt slot fun _ => .wrUnmapped80 slot := by
  intro w hwe hslot
  rw [writesAt_decodeWrite slot w hwe hslot, decodeWrite_without_data (by omega)]
  exact decodeWrite_unmapped80 slot ((inUnmapped80_iff slot).mpr hlo)

/-! ## The register words as numbers (R36, R44-R47) -/

theorem busy_toNat (s : State) : (busy s).toNat = if s.phase = .idle then 0 else 1 := by
  by_cases hp : s.phase = .idle <;> simp [busy, hp]

theorem ctrlWord_toNat (s : State) : (ctrlWord s).toNat = s.literal.toNat + 2 * s.doneIe.toNat := by
  simp only [ctrlWord, toNat_append_eq, toNat_ofBool_eq, BitVec.toNat_ofNat]
  omega

theorem statusWord_toNat (s : State) :
    (statusWord s).toNat = (busy s).toNat + 2 * s.done.toNat + 4 * s.cached.toNat + 8 * s.critQ.toNat +
      16 * s.ovr.toNat + 32 * s.ill.toNat + 64 * s.haveResult.toNat + 256 * (phaseCode s.phase).toNat := by
  simp only [statusWord, toNat_append_eq, toNat_ofBool_eq, BitVec.toNat_ofNat]
  omega

theorem resultWord_toNat (r : ResultReg) :
    (resultWord r).toNat =
      (kindCode r.kind).toNat + 2 ^ 8 * r.bits.toNat + 2 ^ 16 * r.half.toNat + 2 ^ 20 * r.hsph.toNat := by
  simp only [resultWord, toNat_append_eq, toNat_ofBool_eq, BitVec.toNat_ofNat]
  omega

theorem data0Word_toNat (fb : Vector Byte 5) :
    (data0Word fb).toNat = fb[0].toNat + 2 ^ 8 * fb[1].toNat + 2 ^ 16 * fb[2].toNat + 2 ^ 24 * fb[3].toNat := by
  simp only [data0Word, toNat_append_eq]
  omega

theorem data1Word_toNat (fb : Vector Byte 5) :
    (data1Word fb).toNat = fb[4].toNat + 2 ^ 8 * (checksum fb).toNat + 2 ^ 16 * (frameOk fb).toNat := by
  simp only [data1Word, toNat_append_eq, toNat_ofBool_eq, BitVec.toNat_ofNat]
  omega

/-! ## Writes that the configuration lock drops (R202, R217, R240) -/

/-- WR_CTRL, with OVR as one equation: busy, it is set by a LITERAL bit that differs. -/
theorem execWrCtrl_eq (literal doneIe : Bool) (s : State) :
    execWrCtrl literal doneIe s = .next (
      if s.phase = .idle then { s with doneIe := doneIe, literal := literal }
      else { s with doneIe := doneIe, ovr := s.ovr || xor literal s.literal }) := by
  unfold execWrCtrl
  by_cases hlit : literal = s.literal
  · simp [hlit]
  · have hxor : xor literal s.literal = true := by simpa using hlit
    simp [hlit, hxor, setOvr]

theorem legaliseBudget_eq (b : Half) : legaliseBudget b = BitVec.ofNat 16 (max 2 b.toNat) := by
  rw [← legaliseBudget_toNat, BitVec.ofNat_toNat, BitVec.setWidth_eq]

theorem lockedWrite_eq (stored s : State) :
    lockedWrite stored s = .next (if s.phase = .idle then stored else { s with ovr := true }) := rfl

/-! ## The READ command (R206, R453) -/

/-- The rate limit compares the time since the last acceptance, mod 2^32, with MININT. -/
theorem limited_iff (s : State) :
    limited s = true ↔
      s.haveResult = true ∧ (s.nowms.toNat + 2 ^ 32 - s.lasttime.toNat) % 2 ^ 32 < s.minint.toNat := by
  have helapsed : (elapsed s).toNat = (s.nowms.toNat + 2 ^ 32 - s.lasttime.toNat) % 2 ^ 32 := by
    rw [elapsed, BitVec.toNat_sub]
    congr 1
    have := s.lasttime.isLt
    omega
  rw [limited, Bool.and_eq_true, decide_eq_true_iff, BitVec.lt_def, helapsed]

/-! ## Clearing DONE against the completion that sets it (R209, R530) -/

theorem clearFlags_eq (clrDone clrOvr clrIll : Bool) (s : State) :
    clearFlags clrDone clrOvr clrIll s =
      { s with
        done := if clrDone then false else s.done
        ovr := if clrOvr then false else s.ovr
        ill := if clrIll then false else s.ill } := by
  cases clrDone <;> cases clrOvr <;> cases clrIll <;> simp [clearFlags]

/-- The set wins: after a unit's step DONE is 1 if the step completed the transaction, else as the access left it. -/
theorem unitStep_done (inp : Input) {s h : State} (hh : h.phase = s.phase) :
    (unitStep inp s h).done =
      if s.phase ≠ .idle ∧ (unitStep inp s h).phase = .idle then true else h.done := by
  by_cases hp : s.phase = .idle
  · simp [unitStep, hp]
  · obtain ⟨hphase, -, -, -, hdone⟩ | ⟨kind, bits, half, hsph, g, -, hcomplete⟩ := unitStep_cases (inp := inp) hp hh
    · rw [hdone, if_neg fun hc => hphase hc.2]
    · rw [hcomplete, if_pos ⟨hp, rfl⟩]
      rfl

/-- A cycle out of reset with a WR_STATUS: the unit that PHASE selects writes on the cleared flags. -/
theorem step_wrStatus {s t : State} {w : AccessWord} {clrDone clrOvr clrIll : Bool}
    (hr : (nextInput s).rstN = true) (ha : accessOf (nextInput s) = some w)
    (hw : decode w = .wrStatus clrDone clrOvr clrIll) (he : step s = .next t) :
    t = unitStep (nextInput s) (beginCycle s)
      (freeRun (nextInput s) (beginCycle s) (clearFlags clrDone clrOvr clrIll (beginCycle s))) := by
  have hexec : exec (decode w) (beginCycle s) = .next (clearFlags clrDone clrOvr clrIll (beginCycle s)) := by
    rw [hw]; rfl
  rw [step_of_access ha hexec, edge_out_of_reset hr, Host.Outcome.next.injEq] at he
  exact he.symm

end Sys2Proof.Machine

namespace Sys2Proof.Proofs

open Sys2Proof.Machine

/-- Settles O5. STATUS holds the phase's code and BUSY, which the statement writes out phase by phase. -/
theorem readControlCommandStatus : Obligations.ReadControlCommandStatus := by
  refine ⟨⟨readsAt_decodeRead 0x00#6, readsAt_decodeRead 0x01#6, readsAt_decodeRead 0x02#6⟩, fun s => ?_⟩
  refine ⟨⟨_, rfl, ctrlWord_toNat s⟩, rfl, _, rfl, ?_⟩
  rw [statusWord_toNat, busy_toNat]
  cases s.phase <;> rfl

/-- Settles O6. -/
theorem readResultAndFrame : Obligations.ReadResultAndFrame := by
  refine ⟨⟨readsAt_decodeRead 0x03#6, readsAt_decodeRead 0x04#6, readsAt_decodeRead 0x05#6⟩, fun s => ?_⟩
  refine ⟨⟨_, rfl, ?result⟩, ⟨_, rfl, data0Word_toNat s.fb⟩, _, rfl, ?data1⟩
  case result =>
    rw [resultWord_toNat]
    cases s.result.kind <;> rfl
  case data1 =>
    rw [data1Word_toNat, checksum_toNat, frameOk_eq, Bool.toNat, Bool.cond_decide]

/-- Settles O7: a register no wider than the bus word keeps its number when it is widened. -/
theorem readConfiguration : Obligations.ReadConfiguration := by
  refine ⟨⟨readsAt_decodeRead 0x06#6, readsAt_decodeRead 0x07#6, readsAt_decodeRead 0x08#6, readsAt_decodeRead 0x09#6,
    readsAt_decodeRead 0x0A#6, readsAt_decodeRead 0x0B#6, readsAt_decodeRead 0x0C#6⟩, fun s => ?_⟩
  have hbyte (v : Byte) : (v.setWidth 32).toNat = v.toNat := BitVec.toNat_setWidth_of_le (by decide)
  have hhalf (v : Half) : (v.setWidth 32).toNat = v.toNat := BitVec.toNat_setWidth_of_le (by decide)
  exact ⟨⟨_, rfl, hhalf s.budget⟩, ⟨_, rfl, hbyte s.sdiv⟩, ⟨_, rfl, rfl⟩, ⟨_, rfl, hbyte s.startlow⟩,
    ⟨_, rfl, hbyte s.settle⟩, ⟨_, rfl, hhalf s.acklim⟩, _, rfl, hbyte s.reldly⟩

/-- Settles O8. -/
theorem readTimeAndUnmapped : Obligations.ReadTimeAndUnmapped :=
  ⟨⟨readsAt_decodeRead 0x0D#6, readsAt_decodeRead 0x0E#6, readsAt_decodeRead 0x0F#6,
      fun _ => readsAt_unmapped40, fun _ => readsAt_unmapped80⟩,
    fun _ _ => ⟨rfl, rfl, rfl, rfl, rfl⟩⟩

/-- Settles O10. -/
theorem writeControl : Obligations.WriteControl :=
  ⟨writesAt_decodeWrite 0x00#6, fun s literal doneIe => execWrCtrl_eq literal doneIe s⟩

/-- Settles O11: the meaning of each of these operations is `ignoreAccess`. -/
theorem ignoredAccessesChangeNothing : Obligations.IgnoredAccessesChangeNothing :=
  ⟨⟨commandsAt fun _ hop => congrArg decodeCmd hop, writesAt_decodeWrite 0x03#6, writesAt_decodeWrite 0x04#6,
      writesAt_decodeWrite 0x05#6, writesAt_decodeWrite 0x0D#6, writesAt_decodeWrite 0x0E#6, writesAt_decodeWrite 0x0F#6,
      fun _ => writesAt_unmapped40, fun _ => writesAt_unmapped80⟩,
    fun _ _ => ⟨rfl, rfl, rfl, rfl, rfl, rfl, rfl, rfl, rfl⟩⟩

/-- Settles O12, by the three outcomes of the command (`readCommand_cases`). -/
theorem readCommandHasThreeOutcomes : Obligations.ReadCommandHasThreeOutcomes := by
  refine ⟨commandsAt fun _ hop => congrArg decodeCmd hop, fun s => congrArg Host.Outcome.next ?_⟩
  simp only [← limited_iff]
  obtain ⟨hp, hread⟩ | ⟨hp, hl, hread⟩ | ⟨hp, hl, hread⟩ := readCommand_cases s
  · rw [hread, if_pos hp]; rfl
  · rw [hread, if_neg (not_not_intro hp), if_pos hl]; rfl
  · rw [hread, if_neg (not_not_intro hp), if_neg (by simp [hl])]; rfl

/-- Settles O13. -/
theorem reservedCommandSetsIll : Obligations.ReservedCommandSetsIll :=
  ⟨⟨commandsAt fun op hop => decodeCmd_rsvd2 op ((inRsvd2_iff op).mpr hop),
      commandsAt fun op hop => decodeCmd_rsvd4 op ((inRsvd4_iff op).mpr hop),
      commandsAt fun op hop => decodeCmd_rsvd8 op ((inRsvd8_iff op).mpr hop)⟩,
    fun _ _ => ⟨rfl, rfl, rfl⟩⟩

/-- Settles O14. Over the cycle, DONE is `unitStep_done` on the cleared flags; OVR and ILL no unit writes. -/
theorem writeStatusClearsFlags : Obligations.WriteStatusClearsFlags := by
  refine ⟨writesAt_decodeWrite 0x02#6, fun s clrDone clrOvr clrIll => ?access, ?cycle⟩
  case access => exact congrArg Host.Outcome.next (clearFlags_eq clrDone clrOvr clrIll s)
  case cycle =>
    intro s t w clrDone clrOvr clrIll hr ha hw he
    obtain rfl := step_wrStatus hr ha hw he
    obtain ⟨-, ⟨hovr, hill, -⟩, -⟩ := unitStep_frame (nextInput s) (beginCycle s)
      (freeRun (nextInput s) (beginCycle s) (clearFlags clrDone clrOvr clrIll (beginCycle s)))
    exact ⟨unitStep_done _ rfl, hovr, hill⟩

/-- Settles O15: the lock (`lockedWrite_eq`) on the legalised value. -/
theorem writeBudgetLegalises : Obligations.WriteBudgetLegalises := by
  refine ⟨writesAt_decodeWrite 0x06#6, fun s b => ?_⟩
  rw [← legaliseBudget_eq]
  exact lockedWrite_eq _ s

/-- Settles O16: each of these writes is `lockedWrite` of its own field. -/
theorem writeConfiguration : Obligations.WriteConfiguration :=
  ⟨⟨writesAt_decodeWrite 0x07#6, writesAt_decodeWrite 0x08#6, writesAt_decodeWrite 0x09#6, writesAt_decodeWrite 0x0A#6,
      writesAt_decodeWrite 0x0B#6, writesAt_decodeWrite 0x0C#6⟩,
    fun s _ _ _ => ⟨lockedWrite_eq _ s, lockedWrite_eq _ s, lockedWrite_eq _ s, lockedWrite_eq _ s, lockedWrite_eq _ s,
      lockedWrite_eq _ s, lockedWrite_busy⟩⟩

end Sys2Proof.Proofs
end

/-! # The sequencer

The units of the handshake sequencer edge by edge, what a step out of reset does to PHASE, and the waits that end and
those that do not (spec/41_sequencer.md). -/

section

namespace Sys2Proof.Machine

/-! ## The edges of the sequencer's phases (R305, R310, R322-R326) -/

/-- A wait of n ms: SETTLE_PH and START differ only in its length and in the state `done` that its last tick leaves
(R304). -/
def msWait (inp : Input) (n : Byte) (s h done : State) : State :=
  if inp.tickMs then if waitOver n s then done else { h with wcnt := s.wcnt + 1#9 } else h

theorem settleStep_eq_msWait (inp : Input) (s h : State) :
    settleStep inp s h = msWait inp s.settle s h
      { h with wcnt := 0#9, rel := false, phase := if s.startlow ≠ 0#8 then .start else .release } := rfl

theorem startStep_eq_msWait (inp : Input) (s h : State) :
    startStep inp s h = msWait inp s.startlow s h { h with wcnt := 0#9, rel := false, phase := .release } := rfl

/-- The (n+1)-th tick is the one that finds `wcnt` = n (R304, R312). -/
theorem msWait_eq (inp : Input) (n : Byte) (s h done : State) :
    msWait inp n s h done =
      if inp.tickMs = false then h
      else if s.wcnt = n.setWidth 9 then done
      else { h with wcnt := s.wcnt + 1#9 } := by
  rw [msWait, waitOver_eq]
  cases inp.tickMs with
  | false => rfl
  | true => simp only [decide_eq_true_eq, if_true, Bool.true_eq_false, if_false]

/-- A wait ends at its last tick, and until then the phase stays. -/
theorem msWait_cases (inp : Input) (n : Byte) (s h done : State) :
    (inp.tickMs = true ∧ s.wcnt.toNat = n.toNat ∧ msWait inp n s h done = done) ∨
    (¬ (inp.tickMs = true ∧ s.wcnt.toNat = n.toNat) ∧ (msWait inp n s h done).phase = h.phase) := by
  simp only [msWait_eq, wcnt_eq_iff]
  split_ifs with htick hover
  · exact .inr ⟨fun hc => by simp [htick] at hc, rfl⟩
  · exact .inl ⟨Bool.not_eq_false _ ▸ htick, hover, rfl⟩
  · exact .inr ⟨fun hc => hover hc.2, rfl⟩

/-- In a legal state sk never passes RELDLY, so ACK_WAIT has no case for that (R322, R495). -/
theorem ackWaitStep_eq {s : State} (hs : s.sk.toNat ≤ s.reldly.toNat) (h : State) :
    ackWaitStep s h =
      if s.presc.toNat < s.sdiv.toNat then h
      else if s.sk.toNat < s.reldly.toNat then { h with sk := s.sk + 1#8 }
      else if s.sync2 = false then { h with critQ := true, phase := .ackLow, c := 1#16 }
      else if s.acklim = 0#16 then h
      else if s.aw + 1#16 = s.acklim then complete .handshakeTimeout 0#6 false 1#2 s h
      else { h with aw := s.aw + 1#16 } := by
  simp only [ackWaitStep, tickS_eq, decide_eq_true_eq, BitVec.lt_def]
  by_cases htick : s.sdiv.toNat ≤ s.presc.toNat
  · rw [if_pos htick, if_neg htick.not_gt]
    by_cases hdiscard : s.sk.toNat < s.reldly.toNat
    · rw [if_pos hdiscard, if_pos hdiscard]
    · have hall : s.sk = s.reldly := BitVec.eq_of_toNat_eq (Nat.le_antisymm hs (Nat.le_of_not_lt hdiscard))
      rw [if_neg hdiscard, if_neg (not_not_intro hall), if_neg hdiscard]
      rfl
  · rw [if_neg htick, if_pos (Nat.lt_of_not_le htick)]

/-! ## The transitions of PHASE (R330)

Each row of the table is read off the unit that PHASE selects. A unit writes on `h`, which holds the pre-edge PHASE:
what an access does beside the unit can change neither PHASE nor a counter of a running transaction. -/

/-- RATE-LIMIT TEST (R453), on the times as numbers. -/
theorem limited_iff_elapsed (s : State) :
    limited s = true ↔ s.haveResult = true ∧ (s.nowms - s.lasttime).toNat < s.minint.toNat := by
  rw [limited, Bool.and_eq_true, decide_eq_true_iff, BitVec.lt_def, elapsed]

/-- What a cycle's tick, if it is one, makes of the pulse being measured (R360): a COUNT, a TIMEOUT, or nothing. -/
theorem measure_cases (v : Level) (s : State) :
    (countsNow v s ∧ tickS s = true ∧ measureTick v (pinS s) s.budget s.c = (some (.count s.c), 1#16)) ∨
    (timesOutNow v s ∧ tickS s = true ∧ measureTick v (pinS s) s.budget s.c = (some .timeout, 0#16)) ∨
    (¬ countsNow v s ∧ ¬ timesOutNow v s ∧
      (tickS s = true → measureTick v (pinS s) s.budget s.c = (none, s.c + 1#16))) := by
  by_cases htick : s.sdiv.toNat ≤ s.presc.toNat
  · have ht : tickS s = true := by rw [tickS_eq, decide_eq_true htick]
    obtain ⟨hv, hb, hm⟩ | ⟨hv, hb, hm⟩ | ⟨hv, hm⟩ := measureTick_cases v (pinS s) s.budget s.c
    · exact .inr (.inl ⟨⟨htick, hv, hb⟩, ht, hm⟩)
    · exact .inr (.inr ⟨fun hc => hc.2 hv, fun hx => hb hx.2.2, fun _ => hm⟩)
    · exact .inl ⟨⟨htick, hv⟩, ht, hm⟩
  · have ht : tickS s = false := by rw [tickS_eq, decide_eq_false htick]
    exact .inr (.inr ⟨fun hc => htick hc.1, fun hx => htick hx.1, fun h => absurd h (Bool.eq_false_iff.mp ht)⟩)

/-- An acknowledgement pulse of level `v`: ACK_LOW and ACK_HIGH differ only in the level, in the code of the timeout and
in the state `next` that a COUNT leads to (R365, R366). -/
def ackPulse (v : Level) (hsph : BitVec 2) (next : State → State) (s h : State) : State :=
  if tickS s then
    let m := measureTick v (pinS s) s.budget s.c
    match m.1 with
    | none => { h with c := m.2 }
    | some .timeout => complete .handshakeTimeout 0#6 false hsph s { h with c := m.2 }
    | some (.count _) => next { h with c := m.2 }
  else h

theorem ackLowStep_eq_ackPulse (s h : State) :
    ackLowStep s h = ackPulse false 2#2 (fun g => { g with phase := .ackHigh }) s h := rfl

theorem ackHighStep_eq_ackPulse (s h : State) :
    ackHighStep s h = ackPulse true 3#2 (fun g => { g with phase := .capture, j := 0#7 }) s h := rfl

theorem ackPulse_cases (v : Level) (hsph : BitVec 2) (next : State → State) (s h : State) :
    (countsNow v s ∧ ackPulse v hsph next s h = next { h with c := 1#16 }) ∨
    (timesOutNow v s ∧ (ackPulse v hsph next s h).phase = .idle) ∨
    (¬ countsNow v s ∧ ¬ timesOutNow v s ∧ (ackPulse v hsph next s h).phase = h.phase) := by
  obtain ⟨hc, ht, hm⟩ | ⟨hx, ht, hm⟩ | ⟨hc, hx, hm⟩ := measure_cases v s
  · exact .inl ⟨hc, by simp only [ackPulse, ht, hm, if_true]⟩
  · exact .inr (.inl ⟨hx, by simp only [ackPulse, ht, hm, if_true, complete_phase]⟩)
  · refine .inr (.inr ⟨hc, hx, ?_⟩)
    unfold ackPulse
    split
    · next ht => simp only [hm ht]
    · rfl

section Rows

variable {inp : Input} {s h : State} (accepted : Prop)

theorem phaseStep_settle (hp : s.phase = .settle) (hh : h.phase = s.phase) :
    PhaseStep s inp accepted (settleStep inp s h) := by
  simp only [PhaseStep, hp, settleStep_eq_msWait]
  obtain ⟨htick, hw, hover⟩ | ⟨hnot, hstay⟩ := msWait_cases inp s.settle s h _
  · exact .inl ⟨htick, hw, congrArg State.phase hover⟩
  · exact .inr ⟨hnot, hstay.trans (hh.trans hp)⟩

theorem phaseStep_start (hp : s.phase = .start) (hh : h.phase = s.phase) :
    PhaseStep s inp accepted (startStep inp s h) := by
  simp only [PhaseStep, hp, startStep_eq_msWait]
  obtain ⟨htick, hw, hover⟩ | ⟨hnot, hstay⟩ := msWait_cases inp s.startlow s h _
  · exact .inl ⟨htick, hw, congrArg State.phase hover⟩
  · exact .inr ⟨hnot, hstay.trans (hh.trans hp)⟩

theorem phaseStep_release (hp : s.phase = .release) (hh : h.phase = s.phase) :
    PhaseStep s inp accepted (releaseStep s h) := by
  simp only [PhaseStep, hp, releaseStep]
  cases hrel : s.rel with
  | false => exact .inr ⟨rfl, rfl, hh.trans hp⟩
  | true => exact .inl ⟨rfl, rfl⟩

theorem phaseStep_ackWait (hp : s.phase = .ackWait) (hh : h.phase = s.phase) :
    PhaseStep s inp accepted (ackWaitStep s h) := by
  simp only [PhaseStep, hp, ackWaitStep, tickS_eq, decide_eq_true_eq]
  split_ifs with htick hdiscard hever hlow hfree hlast
  · have hne : s.sk ≠ s.reldly := fun heq => BitVec.lt_irrefl _ (heq ▸ hdiscard)
    exact .inr (.inr ⟨fun hc => hne hc.1.2, hh.trans hp⟩)
  · exact .inr (.inr ⟨fun hc => hever hc.1.2, hh.trans hp⟩)
  · exact .inl ⟨⟨htick, not_not.mp hever⟩, hlow, rfl⟩
  · exact .inr (.inr ⟨fun hc => hc.2.elim hlow fun hl => hl.1 hfree, hh.trans hp⟩)
  · exact .inr (.inl ⟨⟨htick, not_not.mp hever⟩, Bool.not_eq_false _ ▸ hlow, ⟨hfree, hlast⟩, rfl⟩)
  · exact .inr (.inr ⟨fun hc => hc.2.elim hlow fun hl => hlast hl.2, hh.trans hp⟩)
  · exact .inr (.inr ⟨fun hc => htick hc.1.1, hh.trans hp⟩)

theorem phaseStep_ackLow (hp : s.phase = .ackLow) (hh : h.phase = s.phase) :
    PhaseStep s inp accepted (ackLowStep s h) := by
  simp only [PhaseStep, hp, ackLowStep_eq_ackPulse]
  obtain ⟨hc, hnext⟩ | ⟨hx, hidle⟩ | ⟨hc, hx, hstay⟩ :=
    ackPulse_cases false 2#2 (fun g => { g with phase := .ackHigh }) s h
  · exact .inl ⟨hc, congrArg State.phase hnext⟩
  · exact .inr (.inl ⟨hx, hidle⟩)
  · exact .inr (.inr ⟨hc, hx, hstay.trans (hh.trans hp)⟩)

theorem phaseStep_ackHigh (hp : s.phase = .ackHigh) (hh : h.phase = s.phase) :
    PhaseStep s inp accepted (ackHighStep s h) := by
  simp only [PhaseStep, hp, ackHighStep_eq_ackPulse]
  obtain ⟨hc, hnext⟩ | ⟨hx, hidle⟩ | ⟨hc, hx, hstay⟩ :=
    ackPulse_cases true 3#2 (fun g => { g with phase := .capture, j := 0#7 }) s h
  · exact .inl ⟨hc, congrArg State.phase hnext, congrArg State.j hnext⟩
  · exact .inr (.inl ⟨hx, hidle⟩)
  · exact .inr (.inr ⟨hc, hx, hstay.trans (hh.trans hp)⟩)

/-- A tick that resolves pulse j ends CAPTURE if j = 79, and else counts j on (R370). -/
theorem captureStep_resolved {r : PulseResult} {c : Half} (ht : tickS s = true)
    (hm : measureTick (captureLevel s) (pinS s) s.budget s.c = (some r, c)) (hh : h.phase = .capture) :
    (s.j = 79#7 ∧ (captureStep s h).phase = .assemble ∧ (captureStep s h).i = 0#6) ∨
    (s.j ≠ 79#7 ∧ (captureStep s h).phase = .capture ∧ (captureStep s h).j = s.j + 1#7) := by
  simp only [captureStep, ht, hm, if_true]
  by_cases hj : s.j = 79#7
  · exact .inl ⟨hj, by simp only [if_pos hj, and_self]⟩
  · exact .inr ⟨hj, by simp only [if_neg hj, hh, and_self]⟩

theorem phaseStep_capture (hp : s.phase = .capture) (hh : h.phase = s.phase) (hj : h.j = s.j) :
    PhaseStep s inp accepted (captureStep s h) := by
  simp only [PhaseStep, hp, ← captureLevel_eq]
  obtain ⟨hc, ht, hm⟩ | ⟨hx, ht, hm⟩ | ⟨hc, hx, hm⟩ := measure_cases (captureLevel s) s
  · exact (captureStep_resolved ht hm (hh.trans hp)).imp (⟨.inl hc, ·⟩) (.inl ⟨.inl hc, ·⟩)
  · exact (captureStep_resolved ht hm (hh.trans hp)).imp (⟨.inr hx, ·⟩) (.inl ⟨.inr hx, ·⟩)
  · refine .inr (.inr ⟨not_or.mpr ⟨hc, hx⟩, ?_⟩)
    unfold captureStep
    split
    · next ht => simp only [hm ht, hh, hp, hj, and_self]
    · exact ⟨hh.trans hp, hj⟩

theorem phaseStep_assemble (hp : s.phase = .assemble) (hh : h.phase = s.phase) :
    PhaseStep s inp accepted (assembleStep s h) := by
  simp only [PhaseStep, hp, endsAtBit, assembleStep, bitLane, classify_eq, Bool.or_eq_true, Bool.and_eq_true]
  split_ifs with hout hfirst hlast hok
  · exact .inl ⟨hout.imp_right .inl, rfl⟩
  · exact .inl ⟨.inr (.inr (.inr hfirst)), rfl⟩
  · exact .inl ⟨.inr (.inr (.inl hlast)), rfl⟩
  · exact .inl ⟨.inr (.inr (.inl hlast)), rfl⟩
  · refine .inr ⟨?_, hh.trans hp, rfl⟩
    rintro (hlo | hhi | hi | hok)
    · exact hout (.inl hlo)
    · exact hout (.inr hhi)
    · exact hlast hi
    · exact hfirst hok

/-- Every unit's step makes a transition of the table. -/
theorem phaseStep_unitStep (hp : s.phase ≠ .idle) (hh : h.phase = s.phase) (hj : h.j = s.j) :
    PhaseStep s inp accepted (unitStep inp s h) := by
  unfold unitStep
  cases hphase : s.phase with
  | idle => exact absurd hphase hp
  | settle => exact phaseStep_settle accepted hphase hh
  | start => exact phaseStep_start accepted hphase hh
  | release => exact phaseStep_release accepted hphase hh
  | ackWait => exact phaseStep_ackWait accepted hphase hh
  | ackLow => exact phaseStep_ackLow accepted hphase hh
  | ackHigh => exact phaseStep_ackHigh accepted hphase hh
  | capture => exact phaseStep_capture accepted hphase hh hj
  | assemble => exact phaseStep_assemble accepted hphase hh

end Rows

/-- The cycle's access is a WR_CMD_READ that is not rate-limited (R205, R453). -/
def AcceptsRead (s : State) : Prop :=
  (∃ w, accessOf (nextInput s) = some w ∧ decode w = .wrCmdRead) ∧
    ¬ (s.haveResult = true ∧ (s.nowms - s.lasttime).toNat < s.minint.toNat)

/-- In IDLE the cycle's access alone decides on PHASE (R300, R331). -/
theorem phaseStep_idle {s t : State} (hr : (nextInput s).rstN = true) (hp : s.phase = .idle) (he : step s = .next t) :
    PhaseStep s (nextInput s) (AcceptsRead s) t := by
  simp only [PhaseStep, hp]
  obtain ⟨h, rfl, ⟨hnone, rfl⟩ | ⟨w, hw, hexec⟩⟩ := step_idle hr hp he
  · exact .inr ⟨fun hacc => by simp [AcceptsRead, hnone] at hacc, hp⟩
  · obtain ⟨hread, ⟨hl, rfl⟩ | ⟨hl, rfl⟩⟩ | ⟨hread, _, _, _, _, _, _, _, _, _, _, _, _, _, rfl, -⟩ :=
      exec_idle (s := beginCycle s) hp hexec
    · exact .inr ⟨fun hacc => hacc.2 ((limited_iff_elapsed s).mp hl), hp⟩
    · refine .inl ⟨⟨⟨w, hw, hread⟩, fun hlim => ?_⟩, rfl⟩
      exact absurd ((limited_iff_elapsed s).mpr hlim) (Bool.eq_false_iff.mp hl)
    · exact .inr ⟨fun ⟨⟨w', hw', hdec⟩, _⟩ => hread (Option.some.inj (hw.symm.trans hw') ▸ hdec), hp⟩

/-- In a transaction the access decides on nothing: the unit's step makes the transition. -/
theorem phaseStep_busy {s t : State} (accepted : Prop) (hr : (nextInput s).rstN = true) (hp : s.phase ≠ .idle)
    (he : step s = .next t) : PhaseStep s (nextInput s) accepted t := by
  obtain ⟨_, _, _, _, _, rfl, -⟩ := step_busy hr hp he
  exact phaseStep_unitStep (s := beginCycle s) accepted hp rfl rfl

theorem phaseStep_step {s t : State} (hr : (nextInput s).rstN = true) (he : step s = .next t) :
    PhaseStep s (nextInput s) (AcceptsRead s) t := by
  by_cases hp : s.phase = .idle
  · exact phaseStep_idle hr hp he
  · exact phaseStep_busy _ hr hp he

/-- A transaction that ends out of reset completes (R330, R420). -/
theorem step_to_idle {s t : State} (hr : (nextInput s).rstN = true) (he : step s = .next t) (hp : s.phase ≠ .idle)
    (hidle : t.phase = .idle) :
    ∃ kind bits half hsph g, kind ≠ Kind.none ∧ t = complete kind bits half hsph (beginCycle s) g := by
  obtain ⟨_, _, _, _, _, rfl, -⟩ := step_busy hr hp he
  refine (unitStep_cases (s := beginCycle s) hp ?_).resolve_left fun hstay => hstay.1 hidle
  rfl

end Sys2Proof.Machine

namespace Sys2Proof.Proofs

open Sys2Proof.Machine

/-- Settles O17: a busy access cannot change PHASE (`exec_busy`), nor can one in IDLE that is no READ (`exec_idle`). -/
theorem onlyReadCommandStartsTheSequencer : Obligations.OnlyReadCommandStartsTheSequencer := by
  intro i s t he hne
  by_cases hp : s.phase = .idle
  · obtain ⟨hi, -⟩ | ⟨-, _, _, _, _, _, _, _, _, _, _, _, _, _, rfl, -⟩ := exec_idle hp he
    · exact ⟨hi, hp⟩
    · exact absurd rfl hne
  · obtain ⟨_, _, _, _, _, rfl, -⟩ := exec_busy hp he
    exact absurd rfl hne

/-- Settles O34: the rows of the table for IDLE and for every unit, and the completion for a return to IDLE. -/
theorem phaseGraph : Obligations.PhaseGraph := by
  intro s t he
  refine ⟨fun hr => ?_, fun hr => ⟨phaseStep_step hr he, step_to_idle hr he⟩⟩
  obtain ⟨h, rfl⟩ := step_reset hr he
  rfl

/-- Settles O37: neither an access in a transaction (`step_busy`) nor a unit (`unitStep_frame`) writes it. -/
theorem configurationIsFixedWhileBusy : Obligations.ConfigurationIsFixedWhileBusy := by
  intro s t hr he hp
  obtain ⟨_, _, _, _, _, rfl, -⟩ := step_busy hr hp he
  obtain ⟨⟨hliteral, -, hbudget, hsdiv, hminint, hstartlow, hsettle, hacklim, hreldly⟩, -⟩ :=
    unitStep_frame (nextInput s) (beginCycle s) (freeRun (nextInput s) (beginCycle s) _)
  exact ⟨hbudget, hsdiv, hminint, hstartlow, hsettle, hacklim, hreldly, hliteral⟩

/-- Settles O27: SETTLE_PH is a wait of SETTLE ms (`msWait_eq`). -/
theorem settleEdge : Obligations.SettleEdge := by
  intro inp s h hr hp
  rw [edge_out_of_reset hr, unitStep, hp]
  exact (settleStep_eq_msWait inp s _).trans (msWait_eq inp s.settle s _ _)

/-- Settles O28: START is a wait of STARTLOW ms (`msWait_eq`). -/
theorem startEdge : Obligations.StartEdge := by
  intro inp s h hr hp
  rw [edge_out_of_reset hr, unitStep, hp]
  exact (startStep_eq_msWait inp s _).trans (msWait_eq inp s.startlow s _ _)

/-- Settles O29, by the two cycles of RELEASE, told apart by `rel`. -/
theorem releaseAndIdleEdge : Obligations.ReleaseAndIdleEdge := by
  refine fun inp s h hr => ⟨fun hp => ?release, fun hp => ?idle⟩
  case release =>
    rw [edge_out_of_reset hr, unitStep, hp, releaseStep]
    cases s.rel <;> rfl
  case idle => rw [edge_out_of_reset hr, unitStep, hp]

/-- Settles O30: a legal state has discarded at most RELDLY ticks, which is what `ackWaitStep_eq` asks for. -/
theorem ackWaitEdge : Obligations.AckWaitEdge := by
  intro inp s h hs hr hp
  rw [edge_out_of_reset hr, unitStep, hp]
  exact ackWaitStep_eq (hs.discarded hp) _

end Sys2Proof.Proofs

namespace Sys2Proof.Machine

open Sys2Proof.Proofs

/-! ## Waits that do not end (R305, R310, R325, R580) -/

/-- What every cycle out of reset keeps, as long as its inputs satisfy `ok`, holds after any number of them. -/
theorem run_keeps {inv : State → Prop} {ok : Input → Prop}
    (hkeep : ∀ s, inv s → (nextInput s).rstN = true → ok (nextInput s) → inv (after s)) (n : Nat) {s : State}
    (hreset : OutOfReset s n) (hok : ∀ k, k < n → ok (inputAt s k)) (hs : inv s) :
    ∃ t, run n s = .next t ∧ inv t := by
  induction n generalizing s with
  | zero => exact ⟨s, rfl, hs⟩
  | succ n ih =>
    rw [run_succ]
    refine ih hreset.tail (fun k hk => ?_) (hkeep s hs hreset.head ?_)
    · rw [inputAt_after]; exact hok (k + 1) (Nat.succ_lt_succ hk)
    · rw [← inputAt_zero]; exact hok 0 (Nat.succ_pos n)

/-- The synchronizer moves on in every cycle, whatever else the step does (R352). -/
theorem step_sync {s t : State} (hr : (nextInput s).rstN = true) (he : step s = .next t) :
    t.sync1 = (nextInput s).pinI ∧ t.sync2 = s.sync1 := by
  obtain ⟨h, hstep, -⟩ := step_eq s
  rw [hstep, edge_out_of_reset hr, Host.Outcome.next.injEq] at he
  obtain ⟨-, -, ⟨-, hsync1, hsync2, -⟩, -⟩ :=
    unitStep_frame (nextInput s) (beginCycle s) (freeRun (nextInput s) (beginCycle s) h)
  exact he ▸ ⟨hsync1, hsync2⟩

/-- A step within a transaction leaves RESULT alone (R421). -/
theorem step_result {s t : State} (hr : (nextInput s).rstN = true) (he : step s = .next t) (hp : s.phase ≠ .idle)
    (hbusy : t.phase ≠ .idle) : t.result = s.result := by
  obtain ⟨_, _, _, _, _, rfl, -⟩ := step_busy hr hp he
  refine (unitStep_cases (s := beginCycle s) hp ?_).elim (fun ⟨_, hresult, _⟩ => hresult) ?_
  · rfl
  · rintro ⟨_, _, _, _, _, -, hcomplete⟩
    exact absurd (congrArg State.phase hcomplete) hbusy

/-- ACK_WAIT without a bound, and nothing but highs in the synchronizer. -/
structure WaitsUnbounded (r : ResultReg) (s : State) : Prop where
  phase : s.phase = .ackWait
  acklim : s.acklim = 0#16
  sync1 : s.sync1 = true
  sync2 : s.sync2 = true
  result : s.result = r

/-- Of ACK_WAIT's rows one asks for a low, and one for a bound (R325). -/
theorem waitsUnbounded_after {r : ResultReg} {s : State} (h : WaitsUnbounded r s) (hr : (nextInput s).rstN = true)
    (hpin : (nextInput s).pinI = true) : WaitsUnbounded r (after s) := by
  have hp : s.phase ≠ .idle := by simp [h.phase]
  have hstay : (after s).phase = .ackWait := by
    have hrow := phaseStep_busy True hr hp (step_after s)
    simp only [PhaseStep, h.phase] at hrow
    obtain ⟨-, hlow, -⟩ | ⟨-, -, ⟨hbound, -⟩, -⟩ | ⟨-, hstay⟩ := hrow
    · simp [h.sync2] at hlow
    · exact absurd h.acklim hbound
    · exact hstay
  obtain ⟨-, -, -, -, -, hacklim, -⟩ := configurationIsFixedWhileBusy s _ hr (step_after s) hp
  obtain ⟨hsync1, hsync2⟩ := step_sync hr (step_after s)
  exact {
    phase := hstay
    acklim := hacklim.trans h.acklim
    sync1 := hsync1.trans hpin
    sync2 := hsync2.trans h.sync1
    result := (step_result hr (step_after s) hp (by simp [hstay])).trans h.result }

/-- SETTLE_PH and START take no step in a cycle without an ms tick (R305, R310). -/
theorem after_of_no_ms {s : State} (hp : s.phase = .settle ∨ s.phase = .start) (hr : (nextInput s).rstN = true)
    (htick : (nextInput s).tickMs = false) : (after s).phase = s.phase ∧ (after s).wcnt = s.wcnt := by
  have hbusy : s.phase ≠ .idle := by obtain hp | hp := hp <;> simp [hp]
  obtain ⟨_, _, _, _, _, hstep, -⟩ := step_busy hr hbusy (step_after s)
  rw [← edge_out_of_reset hr] at hstep
  obtain hp | hp := hp
  · rw [settleEdge _ (beginCycle s) _ hr hp, if_pos htick] at hstep
    rw [hstep]; exact ⟨rfl, rfl⟩
  · rw [startEdge _ (beginCycle s) _ hr hp, if_pos htick] at hstep
    rw [hstep]; exact ⟨rfl, rfl⟩

/-! ## The bounded wait ends (R322, R326) -/

/-- The sample ticks that a bounded wait has left: the rest of RELDLY and of ACKLIM. -/
def waitTicksLeft (s : State) : Nat := (s.reldly.toNat - s.sk.toNat) + (s.acklim.toNat - s.aw.toNat)

theorem toNat_add_one_of_lt {n : Nat} {a b : BitVec n} (hlt : a.toNat < b.toNat) : (a + 1#n).toNat = a.toNat + 1 := by
  have := b.isLt
  rw [BitVec.toNat_add, BitVec.toNat_ofNat, Nat.add_mod_mod, Nat.mod_eq_of_lt (by omega)]

/-- Every sample tick of a bounded wait ends it or uses one of the ticks it has left. -/
theorem ackWaitStep_progress {s h : State} (hs : Legal s) (hw : Agree s h) (hp : s.phase = .ackWait)
    (hlim : s.acklim ≠ 0#16) :
    ((ackWaitStep s h).phase = .ackLow ∨ (ackWaitStep s h).phase = .idle) ∨
    ((ackWaitStep s h).phase = .ackWait ∧
      (if tickS s then 1 else 0) + waitTicksLeft (ackWaitStep s h) ≤ waitTicksLeft s) := by
  have hph : h.phase = .ackWait := hw.phase.symm.trans hp
  have haw := hs.waited hp
  rw [if_neg hlim] at haw
  rw [ackWaitStep_eq (hs.discarded hp)]
  by_cases hquiet : s.presc.toNat < s.sdiv.toNat
  · have htick : tickS s = false := by rw [tickS_eq, decide_eq_false hquiet.not_ge]
    rw [if_pos hquiet, htick]
    refine .inr ⟨hph, ?_⟩
    simp [waitTicksLeft, hw.reldly, hw.sk, hw.acklim, hw.aw]
  · have htick : tickS s = true := by rw [tickS_eq, decide_eq_true (Nat.le_of_not_lt hquiet)]
    rw [if_neg hquiet, if_pos htick]
    split_ifs with hdiscard hlow hlast
    · refine .inr ⟨hph, ?_⟩
      have hnext := toNat_add_one_of_lt hdiscard
      simp only [waitTicksLeft, ← hw.reldly, ← hw.acklim, ← hw.aw, hnext]
      omega
    · exact .inl (.inl rfl)
    · exact .inl (.inr rfl)
    · refine .inr ⟨hph, ?_⟩
      have hnext := toNat_add_one_of_lt haw
      simp only [waitTicksLeft, ← hw.reldly, ← hw.sk, ← hw.acklim, hnext]
      omega

/-- One cycle of a bounded wait out of reset. -/
theorem after_boundedWait {s : State} (hs : Legal s) (hr : (nextInput s).rstN = true) (hp : s.phase = .ackWait)
    (hlim : s.acklim ≠ 0#16) :
    ((after s).phase = .ackLow ∨ (after s).phase = .idle) ∨
    ((after s).phase = .ackWait ∧ (if tickS s then 1 else 0) + waitTicksLeft (after s) ≤ waitTicksLeft s) := by
  obtain ⟨_, _, _, _, _, hstep, -⟩ := step_busy hr (by simp [hp]) (step_after s)
  have hunit (h : State) : unitStep (nextInput s) (beginCycle s) h = ackWaitStep (beginCycle s) h := by
    simp only [unitStep, beginCycle_phase, hp]
  rw [hstep, hunit]
  exact ackWaitStep_progress (s := beginCycle s) (legal_beginCycle hs)
    ⟨rfl, rfl, rfl, rfl, rfl, rfl, rfl, rfl, rfl, rfl, rfl, rfl, rfl, rfl⟩ hp hlim

end Sys2Proof.Machine

namespace Sys2Proof.Proofs

open Sys2Proof.Machine

/-- Settles O44: `WaitsUnbounded` is kept, whatever the host does. -/
theorem unboundedWaitNeverEnds : Obligations.UnboundedWaitNeverEnds := by
  intro n s hreset hp hlim hsync1 hsync2 hpin
  obtain ⟨t, hrun, ht⟩ := run_keeps (inv := WaitsUnbounded s.result) (ok := fun inp => inp.pinI = true)
    (fun _ => waitsUnbounded_after) n hreset hpin ⟨hp, hlim, hsync1, hsync2, rfl⟩
  exact ⟨t, hrun, ht.phase, ht.result⟩

/-- Settles O45: PHASE and `wcnt` are kept, and PHASE alone decides on `pin_oe`. -/
theorem noTickNoProgress : Obligations.NoTickNoProgress := by
  intro n s hreset hp htick
  obtain ⟨t, hrun, hphase, hwcnt⟩ := run_keeps (inv := fun u => u.phase = s.phase ∧ u.wcnt = s.wcnt)
    (ok := fun inp => inp.tickMs = false)
    (fun u ⟨hphase, hwcnt⟩ hr htick =>
      (after_of_no_ms (hphase ▸ hp) hr htick).imp (·.trans hphase) (·.trans hwcnt))
    n hreset htick ⟨rfl, rfl⟩
  exact ⟨t, hrun, hphase, hwcnt, by rw [pinOe, pinOe, hphase]⟩

/-- Settles O46, by induction on the cycles: each sample tick ends the wait or uses up one of the ticks it has left. -/
theorem boundedWaitEnds : Obligations.BoundedWaitEnds := by
  intro n
  induction n with
  | zero =>
    intro s hs _ hp hlim hle
    have haw := hs.waited hp
    rw [if_neg hlim] at haw
    rw [ticksIn] at hle
    omega
  | succ n ih =>
    intro s hs hreset hp hlim hle
    rw [ticksIn] at hle
    obtain hleft | ⟨hwait, hprogress⟩ := after_boundedWait hs hreset.head hp hlim
    · exact ⟨1, after s, Nat.succ_pos n, by rw [run_succ, run_zero], hleft⟩
    · obtain ⟨-, -, -, -, -, hacklim, -⟩ :=
        configurationIsFixedWhileBusy s _ hreset.head (step_after s) (by simp [hp])
      have hticks : waitTicksLeft (after s) ≤ ticksIn n (after s) :=
        Nat.le_of_add_le_add_left (hprogress.trans hle)
      obtain ⟨m, t, hm, hrun, ht⟩ := ih (after s) (everyStepKeepsTheStateLegal s _ hs (step_after s)) hreset.tail hwait
        (hacklim ▸ hlim) hticks
      exact ⟨m + 1, t, Nat.succ_le_succ hm, by rw [run_succ, hrun], ht⟩

end Sys2Proof.Proofs
end

/-! # The sampler

The free-running registers, the three phases that measure edge by edge, what opens and closes the critical window and
how long it stays open, and MEASURE against the run length of the line (spec/42_sampler.md). -/

section

namespace Sys2Proof.Machine

open Sys2Proof.Proofs

/-! ## The free-running registers (R350, R352, R450) -/

/-- The prescaler tells a sample tick from a cycle between ticks (R350). -/
theorem tickS_cases (s : State) :
    (tickS s = false ∧ s.presc.toNat < s.sdiv.toNat) ∨ (tickS s = true ∧ ¬ s.presc.toNat < s.sdiv.toNat) := by
  by_cases hquiet : s.presc.toNat < s.sdiv.toNat
  · exact .inl ⟨by rw [tickS_eq, decide_eq_false hquiet.not_ge], hquiet⟩
  · exact .inr ⟨by rw [tickS_eq, decide_eq_true (Nat.le_of_not_lt hquiet)], hquiet⟩

/-- Neither an access nor a unit touches the prescaler or NOWMS. -/
theorem step_presc_nowms {s t : State} (hr : (nextInput s).rstN = true) (he : step s = .next t) :
    t.presc = (if tickS s then 0#8 else s.presc + 1#8) ∧
      t.nowms = if (nextInput s).tickMs then s.nowms + 1#32 else s.nowms := by
  obtain ⟨h, hstep, -⟩ := step_eq s
  rw [hstep, edge_out_of_reset hr, Host.Outcome.next.injEq] at he
  obtain ⟨-, -, ⟨hpresc, -, -, hnowms, -⟩, -⟩ :=
    unitStep_frame (nextInput s) (beginCycle s) (freeRun (nextInput s) (beginCycle s) h)
  exact he ▸ ⟨hpresc, hnowms⟩

/-! ## The edges of the measuring phases (R360, R365, R366, R370) -/

/-- An acknowledgement pulse at one edge: the other level ends it, and the expected one counts up to the budget. -/
theorem ackPulse_eq (v : Level) (hsph : BitVec 2) (next : State → State) (s h : State) :
    ackPulse v hsph next s h =
      if s.presc.toNat < s.sdiv.toNat then h
      else if s.sync2 = !v then next { h with c := 1#16 }
      else if s.c + 1#16 = s.budget then complete .handshakeTimeout 0#6 false hsph s { h with c := 0#16 }
      else { h with c := s.c + 1#16 } := by
  obtain ⟨htick, hquiet⟩ | ⟨htick, hticks⟩ := tickS_cases s
  · rw [if_pos hquiet, ackPulse, htick]
    rfl
  · rw [if_neg hticks]
    obtain ⟨hv, hb, hm⟩ | ⟨hv, hb, hm⟩ | ⟨hv, hm⟩ := measureTick_cases v (pinS s) s.budget s.c <;>
      simp only [ackPulse, htick, hm, if_true] <;> simp only [pinS] at hv
    · rw [if_neg (by simp [hv]), if_pos hb]
    · rw [if_neg (by simp [hv]), if_neg hb]
    · rw [if_pos (Bool.eq_not_of_ne hv)]

theorem captureStep_quiet {s : State} (htick : tickS s = false) (h : State) : captureStep s h = h := by
  rw [captureStep, htick]; rfl

/-- A tick that leaves pulse j unresolved only counts. -/
theorem captureStep_unresolved {s : State} {c : Half} (htick : tickS s = true)
    (hm : measureTick (captureLevel s) (pinS s) s.budget s.c = (none, c)) (h : State) :
    captureStep s h = { h with c := c } := by
  simp only [captureStep, htick, hm, if_true]

/-- A tick that resolves pulse j stores its result, and ends the window and the capture if j = 79. -/
theorem captureStep_stores {s : State} {r : PulseResult} {c : Half} (htick : tickS s = true)
    (hm : measureTick (captureLevel s) (pinS s) s.budget s.c = (some r, c)) (h : State) :
    captureStep s h =
      { h with
        c := c
        samp := s.samp.setIfInBounds s.j.toNat (sampleOf (Config.timeoutCnt s.cycle) r)
        j := if s.j = 79#7 then h.j else s.j + 1#7
        critQ := if s.j = 79#7 then false else h.critQ
        phase := if s.j = 79#7 then .assemble else h.phase
        i := if s.j = 79#7 then 0#6 else h.i } := by
  simp only [captureStep, htick, hm, if_true]
  by_cases hj : s.j = 79#7
  · simp only [if_pos hj]
  · simp only [if_neg hj]

/-! ## The critical window (R375) -/

/-- The level that a phase of the window expects of its pulse (R365, R366, R370). -/
def expectedLevel (s : State) : Level :=
  match s.phase with
  | .ackHigh => true
  | .capture => captureLevel s
  | _ => false

/-- The pulses that the window has not resolved yet, the current one among them: of 82, the first two are those of the
acknowledgement (R372). -/
def pulsesLeft (s : State) : Nat :=
  match s.phase with
  | .ackLow => 82
  | .ackHigh => 81
  | .capture => 80 - s.j.toNat
  | _ => 0

/-- The window opens only from ACK_WAIT to ACK_LOW. -/
theorem window_opens {s t : State} {inp : Input} {accepted : Prop} (hrow : PhaseStep s inp accepted t)
    (hs : inWindow s.phase = false) (ht : inWindow t.phase = true) : s.phase = .ackWait ∧ t.phase = .ackLow := by
  have hin {p : Phase} (h : t.phase = p) : inWindow p = true := h ▸ ht
  cases hp : s.phase <;> simp only [PhaseStep, hp] at hrow hs
  case idle =>
    obtain ⟨-, h⟩ | ⟨-, h⟩ := hrow
    · split_ifs at h <;> cases hin h
    · cases hin h
  case settle =>
    obtain ⟨-, -, h⟩ | ⟨-, h⟩ := hrow
    · split_ifs at h <;> cases hin h
    · cases hin h
  case start => obtain ⟨-, -, h⟩ | ⟨-, h⟩ := hrow <;> cases hin h
  case release => obtain ⟨-, h⟩ | ⟨-, -, h⟩ := hrow <;> cases hin h
  case ackWait =>
    obtain ⟨-, -, h⟩ | ⟨-, -, -, h⟩ | ⟨-, h⟩ := hrow
    · exact ⟨rfl, h⟩
    · cases hin h
    · cases hin h
  case ackLow | ackHigh | capture => cases hs
  case assemble => obtain ⟨-, h⟩ | ⟨-, h, -⟩ := hrow <;> cases hin h

/-- A cycle of the window leaves it for IDLE or ASSEMBLE, goes on to the next pulse, or leaves the pulse unresolved. -/
theorem window_cases {s t : State} {inp : Input} {accepted : Prop} (hs : Legal s) (hrow : PhaseStep s inp accepted t)
    (hw : inWindow s.phase = true) :
    (t.phase = .idle ∨ t.phase = .assemble) ∨
    (inWindow t.phase = true ∧ pulsesLeft t + 1 = pulsesLeft s) ∨
    (inWindow t.phase = true ∧ pulsesLeft t = pulsesLeft s ∧
      ¬ countsNow (expectedLevel s) s ∧ ¬ timesOutNow (expectedLevel s) s) := by
  obtain hp | hp | hp := (inWindow_iff _).mp hw <;>
    simp only [PhaseStep, hp, ← captureLevel_eq] at hrow <;> simp only [pulsesLeft, expectedLevel, hp]
  · obtain ⟨-, ht⟩ | ⟨-, ht⟩ | ⟨hc, hx, ht⟩ := hrow
    · exact .inr (.inl (by simp [ht, inWindow]))
    · exact .inl (.inl ht)
    · exact .inr (.inr ⟨by simp [ht, inWindow], by simp [ht], hc, hx⟩)
  · obtain ⟨-, ht, hj⟩ | ⟨-, ht⟩ | ⟨hc, hx, ht⟩ := hrow
    · exact .inr (.inl (by simp [ht, hj, inWindow]))
    · exact .inl (.inl ht)
    · exact .inr (.inr ⟨by simp [ht, inWindow], by simp [ht], hc, hx⟩)
  · have hle := hs.pulse hp
    obtain ⟨-, -, ht, -⟩ | ⟨-, hne, ht, hj⟩ | ⟨hres, ht, hj⟩ := hrow
    · exact .inl (.inr ht)
    · have hne' : s.j.toNat ≠ 79 := BitVec.toNat_ne.mp hne
      have hnext : s.j.toNat < (79#7).toNat := Nat.lt_of_le_of_ne hle hne'
      refine .inr (.inl ⟨by simp [ht, inWindow], ?_⟩)
      simp only [ht, hj, toNat_add_one_of_lt hnext]
      omega
    · obtain ⟨hc, hx⟩ := not_or.mp hres
      exact .inr (.inr ⟨by simp [ht, inWindow], by simp [ht, hj], hc, hx⟩)

/-! ## How long the window stays open (R372) -/

/-- A unit that leaves its pulse unresolved counts the tick, if the cycle is one (R360). -/
theorem unitStep_c_of_unresolved {inp : Input} {s h : State} (hw : inWindow s.phase = true)
    (hc : ¬ countsNow (expectedLevel s) s) (hx : ¬ timesOutNow (expectedLevel s) s) (hh : h.c = s.c) :
    (unitStep inp s h).c = if tickS s then s.c + 1#16 else s.c := by
  have hm : tickS s = true → measureTick (expectedLevel s) (pinS s) s.budget s.c = (none, s.c + 1#16) := by
    obtain ⟨h1, -⟩ | ⟨h1, -⟩ | ⟨-, -, hm⟩ := measure_cases (expectedLevel s) s
    · exact absurd h1 hc
    · exact absurd h1 hx
    · exact hm
  obtain hp | hp | hp := (inWindow_iff _).mp hw <;> simp only [expectedLevel, hp] at hm <;>
    simp only [unitStep, hp, ackLowStep, ackHighStep, captureStep] <;> split <;>
    simp [*]

/-- The sample ticks that the window can still take: B for each pulse left, less those already counted (R361). -/
def windowTicksLeft (s : State) : Nat := pulsesLeft s * s.budget.toNat - s.c.toNat

theorem pulsesLeft_pos {s : State} (hs : Legal s) (hw : inWindow s.phase = true) : 1 ≤ pulsesLeft s := by
  obtain hp | hp | hp := (inWindow_iff _).mp hw <;> simp only [pulsesLeft, hp]
  · decide
  · decide
  · have := hs.pulse hp
    omega

theorem pulsesLeft_le (s : State) : pulsesLeft s ≤ 82 := by
  unfold pulsesLeft
  split <;> omega

theorem windowTicksLeft_pos {s : State} (hs : Legal s) (hw : inWindow s.phase = true) : 0 < windowTicksLeft s := by
  have hc := hs.count hw
  have hB := Nat.le_mul_of_pos_left s.budget.toNat (pulsesLeft_pos hs hw)
  exact Nat.sub_pos_of_lt (hc.trans_le hB)

/-- Every sample tick of the window ends it or uses up one of the ticks it has left. -/
theorem after_inWindow {s : State} (hs : Legal s) (hr : (nextInput s).rstN = true) (hw : inWindow s.phase = true) :
    ((after s).phase = .idle ∨ (after s).phase = .assemble) ∨
    (inWindow (after s).phase = true ∧
      (if tickS s then 1 else 0) + windowTicksLeft (after s) ≤ windowTicksLeft s) := by
  have hp : s.phase ≠ .idle := by intro hp; simp [hp, inWindow] at hw
  obtain ⟨hbudget, -⟩ := configurationIsFixedWhileBusy s _ hr (step_after s) hp
  have hc := hs.count hw
  obtain hleft | ⟨hin, hnext⟩ | ⟨hin, hsame, hcount, htimeout⟩ :=
    window_cases hs (phaseStep_busy True hr hp (step_after s)) hw
  · exact .inl hleft
  · refine .inr ⟨hin, ?_⟩
    simp only [windowTicksLeft, hbudget, ← hnext, Nat.add_mul]
    split <;> omega
  · refine .inr ⟨hin, ?_⟩
    obtain ⟨_, _, _, _, _, hstep, -⟩ := step_busy hr hp (step_after s)
    have hcnext : (after s).c = if tickS s then s.c + 1#16 else s.c := by
      rw [hstep]
      exact unitStep_c_of_unresolved (s := beginCycle s) hw hcount htimeout rfl
    have hB := Nat.le_mul_of_pos_left s.budget.toNat (pulsesLeft_pos hs hw)
    simp only [windowTicksLeft, hbudget, hsame, hcnext]
    split
    · rw [toNat_add_one_of_lt hc]; omega
    · omega

/-- Where every sample tick ends a stretch of a run or uses up one of the ticks `left` that it has, the stretch ends
once that many ticks have passed. -/
theorem run_reaches {inv goal : State → Prop} {left : State → Nat}
    (hstep : ∀ s, inv s → (nextInput s).rstN = true →
      goal (after s) ∨ (inv (after s) ∧ (if tickS s then 1 else 0) + left (after s) ≤ left s))
    (hpos : ∀ s, inv s → 0 < left s) (n : Nat) {s : State} (hreset : OutOfReset s n) (hs : inv s)
    (hticks : left s ≤ ticksIn n s) : ∃ m t, m ≤ n ∧ run m s = .next t ∧ goal t := by
  induction n generalizing s with
  | zero => exact absurd ((hpos s hs).trans_le hticks) (Nat.lt_irrefl 0)
  | succ n ih =>
    rw [ticksIn] at hticks
    obtain hgoal | ⟨hinv, hprogress⟩ := hstep s hs hreset.head
    · exact ⟨1, after s, Nat.succ_pos n, by rw [run_succ, run_zero], hgoal⟩
    · obtain ⟨m, t, hm, hrun, ht⟩ := ih hreset.tail hinv (Nat.le_of_add_le_add_left (hprogress.trans hticks))
      exact ⟨m + 1, t, Nat.succ_le_succ hm, by rw [run_succ, hrun], ht⟩

/-! ## MEASURE and the run length (R361, R483) -/

/-- A stretch of the line at the expected level adds its length to the run. -/
theorem runLength_append {v : Level} {x : List Level} (hx : ∀ l ∈ x, l = v) {cap : Nat} (hle : x.length ≤ cap)
    (y : List Level) : runLength v cap (x ++ y) = x.length + runLength v (cap - x.length) y := by
  induction x generalizing cap with
  | nil => simp
  | cons l x ih =>
    obtain ⟨cap, rfl⟩ := Nat.exists_eq_add_of_le' (Nat.lt_of_lt_of_le (Nat.succ_pos _) hle)
    have hl : l = v := hx l List.mem_cons_self
    rw [List.cons_append, runLength, if_pos hl,
      ih (fun k hk => hx k (List.mem_cons_of_mem l hk)) (Nat.le_of_succ_le_succ hle)]
    simp only [List.length_cons, Nat.add_sub_add_right]
    omega

/-- The next tick lengthens the run if it is at the expected level. -/
theorem runLength_concat {v : Level} {x : List Level} (hx : ∀ l ∈ x, l = v) {cap : Nat} (hlt : x.length < cap)
    (y : Level) : runLength v cap (x ++ [y]) = x.length + if y = v then 1 else 0 := by
  obtain ⟨k, hk⟩ := Nat.exists_eq_add_of_lt hlt
  rw [runLength_append hx hlt.le, hk, Nat.add_assoc, Nat.add_sub_cancel_left]
  cases k <;> rfl

end Sys2Proof.Machine

namespace Sys2Proof.Proofs

open Sys2Proof.Machine

/-- Settles O49, by the three cases of a tick: it completes the run of B, lengthens the run, or ends it. -/
theorem measureIsRunLength : Obligations.MeasureIsRunLength := by
  intro v b x y _ hx hlt
  have hb := b.isLt
  have hnext : BitVec.ofNat 16 x.length + 1#16 = BitVec.ofNat 16 (x.length + 1) := (BitVec.ofNat_add _ 1).symm
  have hlast : BitVec.ofNat 16 (x.length + 1) = b ↔ b.toNat ≤ x.length + 1 := by
    rw [← BitVec.toNat_inj, BitVec.toNat_ofNat]; omega
  have hrun := runLength_concat hx hlt y
  obtain ⟨hy, hc, hm⟩ | ⟨hy, hc, hm⟩ | ⟨hy, hm⟩ := measureTick_cases v y b (BitVec.ofNat 16 x.length) <;>
    rw [hm, runPulse, hrun]
  · rw [hnext, hlast] at hc
    simp [hy, hc, PulseResult.isTimeout]
  · rw [hnext, Ne, hlast] at hc
    simp [hy, hc, hnext]
  · simp [hy, hlt.not_ge, PulseResult.isTimeout]

/-- Settles O41: in a legal state the window is a matter of PHASE, and PHASE enters it (`window_opens`) and leaves it
(`window_cases`) in these ways alone. -/
theorem criticalWindowEdges : Obligations.CriticalWindowEdges := by
  intro s t hs hr he
  have ht := everyStepKeepsTheStateLegal s t hs he
  have hrow := phaseStep_step hr he
  rw [hs.crit, ht.crit]
  refine ⟨⟨fun ⟨hout, hin⟩ => window_opens hrow hout hin, fun ⟨hp, hp'⟩ => by simp [hp, hp', inWindow]⟩,
    ⟨fun ⟨hin, hout⟩ => ⟨hin, ?_⟩, fun ⟨hin, hleft⟩ => ⟨hin, ?_⟩⟩⟩
  · obtain hleft | ⟨hstay, -⟩ | ⟨hstay, -⟩ := window_cases hs hrow hin
    · exact hleft
    · simp [hstay] at hout
    · simp [hstay] at hout
  · obtain hp | hp := hleft <;> rw [hp] <;> rfl

/-- Settles O47: 82 pulses of at most B ticks each are the most that the window can have left (`run_reaches`). -/
theorem criticalWindowIsBounded : Obligations.CriticalWindowIsBounded := by
  intro n s hs hreset hcrit hticks
  have hw : inWindow s.phase = true := hs.crit.symm.trans hcrit
  have hmax : windowTicksLeft s ≤ 82 * s.budget.toNat :=
    (Nat.sub_le _ _).trans (Nat.mul_le_mul_right _ (pulsesLeft_le s))
  obtain ⟨m, t, hm, hrun, ht, hleft⟩ := run_reaches
    (inv := fun u => Legal u ∧ inWindow u.phase = true)
    (goal := fun u => Legal u ∧ (u.phase = .idle ∨ u.phase = .assemble)) (left := windowTicksLeft)
    (fun u ⟨hu, huw⟩ hr =>
      have hnext := everyStepKeepsTheStateLegal u _ hu (step_after u)
      (after_inWindow hu hr huw).imp (⟨hnext, ·⟩) (fun ⟨hin, hprogress⟩ => ⟨⟨hnext, hin⟩, hprogress⟩))
    (fun u ⟨hu, huw⟩ => windowTicksLeft_pos hu huw) n hreset ⟨hs, hw⟩ (hmax.trans hticks)
  refine ⟨m, t, hm, hrun, ht.crit.trans ?_, hleft⟩
  obtain hp | hp := hleft <;> rw [hp] <;> rfl

/-- Settles O24: the free-running registers take no write but `freeRun`'s. -/
theorem freeRunningRegisters : Obligations.FreeRunningRegisters := by
  intro s hr
  obtain ⟨hpresc, hnowms⟩ := step_presc_nowms hr (step_after s)
  obtain ⟨hsync1, hsync2⟩ := step_sync hr (step_after s)
  refine ⟨after s, step_after s, ?presc, ?tick, hsync1, hsync2, rfl, ?nowms⟩
  case presc =>
    rw [hpresc]
    obtain ⟨htick, hquiet⟩ | ⟨htick, hticks⟩ := tickS_cases s
    · rw [htick, if_neg hquiet.not_ge]
      exact toNat_add_one_of_lt hquiet
    · rw [htick, if_pos (Nat.le_of_not_lt hticks)]
      rfl
  case tick => rw [tickS_eq, decide_eq_true_iff]
  case nowms =>
    rw [hnowms]
    cases (nextInput s).tickMs with
    | false => exact (Nat.mod_eq_of_lt s.nowms.isLt).symm
    | true => exact BitVec.toNat_add _ _

/-- Settles O31: ACK_LOW and ACK_HIGH are one pulse each, of the levels 0 and 1 (`ackPulse_eq`). -/
theorem acknowledgementEdges : Obligations.AcknowledgementEdges := by
  refine fun inp s h hr => ⟨fun hp => ?low, fun hp => ?high⟩
  case low =>
    rw [edge_out_of_reset hr, unitStep, hp]
    exact (ackLowStep_eq_ackPulse s _).trans (ackPulse_eq false 2#2 _ s _)
  case high =>
    rw [edge_out_of_reset hr, unitStep, hp]
    exact (ackHighStep_eq_ackPulse s _).trans (ackPulse_eq true 3#2 _ s _)

/-- Settles O32, by whether the cycle is a tick and what the tick makes of pulse j. -/
theorem captureEdge : Obligations.CaptureEdge := by
  intro inp s h hr hp
  have hunit : edge inp s h = captureStep s (freeRun inp s h) := by rw [edge_out_of_reset hr, unitStep, hp]
  rw [hunit, ← captureLevel_eq]
  obtain ⟨htick, hquiet⟩ | ⟨htick, hticks⟩ := tickS_cases s
  · rw [if_pos hquiet]
    exact captureStep_quiet htick _
  rw [if_neg hticks]
  obtain ⟨hv, hb, hm⟩ | ⟨hv, hb, hm⟩ | ⟨hv, hm⟩ := measureTick_cases (captureLevel s) (pinS s) s.budget s.c <;>
    simp only [pinS] at hv
  · rw [if_neg fun hc => hc.2 hb]
    simp only [if_pos hv]
    exact ⟨sampleOf (Config.timeoutCnt s.cycle) .timeout, rfl, captureStep_stores htick hm _⟩
  · rw [if_pos ⟨hv, hb⟩]
    exact captureStep_unresolved htick hm _
  · rw [if_neg fun hc => hv hc.1]
    simp only [if_neg hv]
    exact ⟨sampleOf (Config.timeoutCnt s.cycle) (.count s.c), rfl, captureStep_stores htick hm _⟩

end Sys2Proof.Proofs
end

/-! # The assembler

A completion and the cache it writes, the bits folded into the frame, and ASSEMBLE against the fold of R485
(spec/43_assembler.md). -/

section

namespace Sys2Proof.Machine

/-! ## The cache through a step (R420, R421, R451) -/

/-- No step of a transaction writes CACHED or `tstart`. -/
theorem step_busy_keeps {s t : State} (hr : (nextInput s).rstN = true) (he : step s = .next t)
    (hp : s.phase ≠ .idle) : t.cached = s.cached ∧ t.tstart = s.tstart := by
  obtain ⟨_, _, _, _, _, rfl, -⟩ := step_busy hr hp he
  obtain ⟨-, ⟨-, -, hcached⟩, ⟨-, -, -, -, htstart⟩, -⟩ :=
    unitStep_frame (nextInput s) (beginCycle s) (freeRun (nextInput s) (beginCycle s) _)
  exact ⟨hcached, htstart⟩

/-- Two states have the same cache: RESULT, LASTTIME and VALID. -/
def SameCache (t s : State) : Prop :=
  t.result = s.result ∧ t.lasttime = s.lasttime ∧ t.haveResult = s.haveResult

/-- In IDLE no access writes the cache, not even the READ that starts a transaction or is answered from the cache. -/
theorem sameCache_step_idle {s t : State} (hr : (nextInput s).rstN = true) (he : step s = .next t)
    (hp : s.phase = .idle) : SameCache t s := by
  obtain ⟨h, rfl, ⟨-, rfl⟩ | ⟨w, -, hexec⟩⟩ := step_idle hr hp he
  · exact ⟨rfl, rfl, rfl⟩
  · obtain ⟨-, ⟨-, rfl⟩ | ⟨-, rfl⟩⟩ | ⟨-, _, _, _, _, _, _, _, _, _, _, _, _, _, rfl, -⟩ :=
      exec_idle (s := beginCycle s) hp hexec <;> exact ⟨rfl, rfl, rfl⟩

/-- A step that stays in a transaction has not completed it, and only the completion writes the cache. -/
theorem sameCache_step_busy {s t : State} (hr : (nextInput s).rstN = true) (he : step s = .next t)
    (hp : s.phase ≠ .idle) (hstay : t.phase ≠ .idle) : SameCache t s := by
  obtain ⟨_, _, _, _, _, rfl, -⟩ := step_busy hr hp he
  refine (unitStep_cases (s := beginCycle s) hp ?_).elim
    (fun ⟨_, hresult, hlasttime, hvalid, _⟩ => ⟨hresult, hlasttime, hvalid⟩) ?_
  · rfl
  · rintro ⟨_, _, _, _, _, -, hcomplete⟩
    exact absurd (congrArg State.phase hcomplete) hstay

/-! ## The lanes of DATA0 (R46, R109) -/

/-- Byte lane k of DATA0 is frame byte k. -/
theorem extractLsb'_data0Word (fb : Vector Byte 5) (k : Nat) (hk : k < 4) :
    (data0Word fb).extractLsb' (8 * k) 8 = fb[k] := by
  apply BitVec.eq_of_toNat_eq
  rw [BitVec.extractLsb'_toNat, Nat.shiftRight_eq_div_pow, data0Word_toNat]
  have := fb[0].isLt; have := fb[1].isLt; have := fb[2].isLt; have := fb[3].isLt
  interval_cases k <;> omega

/-! ## One bit folded in (R407, R410) -/

theorem foldBit_eq (fb : Vector Byte 5) (k : Nat) (b : Bool) :
    foldBit fb k b = fb.setIfInBounds k ((fb[k]?).getD 0#8 <<< 1 ||| if b then 1#8 else 0#8) := by
  rw [foldBit, shiftIn_eq]

theorem getElem_foldBit_same (fb : Vector Byte 5) {k : Nat} (hk : k < 5) (b : Bool) :
    (foldBit fb k b)[k] = shiftIn fb[k] b := by
  simp [foldBit, hk]

theorem getElem_foldBit_other (fb : Vector Byte 5) {j k : Nat} (hk : k < 5) (hne : j ≠ k) (b : Bool) :
    (foldBit fb j b)[k] = fb[k] := by
  simp [foldBit, hne]

theorem getLsbD_shiftIn_zero (lane : Byte) (b : Bool) : (shiftIn lane b).getLsbD 0 = b := by
  cases b <;> simp [shiftIn_eq]

theorem getLsbD_shiftIn_succ (lane : Byte) (b : Bool) {p : Nat} (hp : p + 1 < 8) :
    (shiftIn lane b).getLsbD (p + 1) = lane.getLsbD p := by
  cases b <;> simp [shiftIn_eq, hp, BitVec.getLsbD_eq_getElem (Nat.lt_of_succ_lt hp)]

/-! ## The frame of a sequence of bits (R411) -/

/-- The first n of the bits `bit`, folded from the zeroed frame, each into the lane R410 names. -/
def frameOfBits (bit : Nat → Bool) : Nat → Vector Byte 5
  | 0 => zeroFrame
  | n + 1 => foldBit (frameOfBits bit n) (n / 8) (bit n)

theorem frameOfBits_succ (bit : Nat → Bool) (n : Nat) :
    frameOfBits bit (n + 1) = foldBit (frameOfBits bit n) (n / 8) (bit n) := rfl

theorem frameAfter_eq_frameOfBits (samp : Vector Sample 80) (n : Nat) :
    frameAfter samp n =
      frameOfBits (fun m => classify (sampleAt samp (2 * m)).cnt (sampleAt samp (2 * m + 1)).cnt) n := by
  induction n with
  | zero => rfl
  | succ n ih => rw [frameAfter_succ, ih, frameOfBits_succ]

theorem foldedBits_eq_frameOfBits (samp : Nat → PulseResult) (n : Nat) :
    foldedBits samp n = frameOfBits (fun m => classify (samp (2 * m)).cnt (samp (2 * m + 1)).cnt) n := by
  induction n with
  | zero => rfl
  | succ n ih => rw [foldedBits_succ, ih, frameOfBits_succ]

/-- How many of the first n bits lane k has taken. -/
def bitsInLane (n k : Nat) : Nat := min 8 (n - 8 * k)

/-- The bits of lane k stand with the latest at the bottom, and above the first one it is 0. -/
theorem getLsbD_frameOfBits (bit : Nat → Bool) (n : Nat) {k p : Nat} (hk : k < 5) (hp : p < 8) :
    (frameOfBits bit n)[k].getLsbD p = (decide (p < bitsInLane n k) && bit (8 * k + bitsInLane n k - 1 - p)) := by
  induction n generalizing p with
  | zero => simp [frameOfBits, zeroFrame, bitsInLane]
  | succ n ih =>
    simp only [frameOfBits_succ]
    by_cases hlane : n / 8 = k
    · have hn : bitsInLane (n + 1) k = bitsInLane n k + 1 := by unfold bitsInLane; omega
      have hlast : 8 * k + bitsInLane n k = n := by unfold bitsInLane; omega
      subst hlane
      rw [getElem_foldBit_same _ hk, hn]
      cases p with
      | zero => rw [getLsbD_shiftIn_zero]; simp [hlast]
      | succ p =>
        rw [getLsbD_shiftIn_succ _ _ hp, ih (Nat.lt_of_succ_lt hp)]
        simp only [Nat.add_lt_add_iff_right]
        congr 2
        omega
    · have hn : bitsInLane (n + 1) k = bitsInLane n k := by unfold bitsInLane; omega
      simp only [getElem_foldBit_other _ hk hlane, ih hp, hn]

/-- A lane that no bit has reached is 0. -/
theorem frameOfBits_lane_untouched (bit : Nat → Bool) {n k : Nat} (hk : k < 5) (hle : n ≤ 8 * k) :
    (frameOfBits bit n)[k] = 0#8 := by
  have hempty : bitsInLane n k = 0 := by unfold bitsInLane; omega
  apply BitVec.eq_of_getLsbD_eq
  intro p hp
  simp [getLsbD_frameOfBits bit n hk hp, hempty]

/-- The first bit has moved up to place n - 1 of lane 0 when n bits are in, up to eight. -/
theorem getLsbD_frameOfBits_first (bit : Nat → Bool) {n : Nat} (hpos : 0 < n) (hle : n ≤ 8) :
    (frameOfBits bit n)[0].getLsbD (n - 1) = bit 0 := by
  have hfull : bitsInLane n 0 = n := by unfold bitsInLane; omega
  have hindex : 8 * 0 + n - 1 - (n - 1) = 0 := by omega
  rw [getLsbD_frameOfBits bit n (by omega) (by omega), hfull, hindex, decide_eq_true (by omega), Bool.true_and]

/-- A first bit 1 in a frame of at most eight bits: byte 0 is not 0, all others are, so that the checksum fails
(R415). -/
theorem frameOk_frameOfBits_eq_false {bit : Nat → Bool} (hfirst : bit 0 = true) {n : Nat} (hpos : 0 < n)
    (hle : n ≤ 8) : frameOk (frameOfBits bit n) = false := by
  have hzero {k : Nat} (hk : k < 5) (hk1 : 1 ≤ k) : (frameOfBits bit n)[k].toNat = 0 := by
    rw [frameOfBits_lane_untouched bit hk (by omega)]; rfl
  have hne : (frameOfBits bit n)[0].toNat ≠ 0 := by
    intro h0
    have htop := getLsbD_frameOfBits_first bit hpos hle
    rw [BitVec.eq_of_toNat_eq (y := 0#8) h0, hfirst] at htop
    simp at htop
  have hlt := (frameOfBits bit n)[0].isLt
  rw [frameOk_eq, decide_eq_false_iff_not, hzero (k := 1) (by decide) (by decide),
    hzero (k := 2) (by decide) (by decide), hzero (k := 3) (by decide) (by decide),
    hzero (k := 4) (by decide) (by decide)]
  omega

/-! ## The end of the fold (R485)

Bit by bit, with the frame of the bits before it, the fold either ends or goes on to the next bit. The cycle rule and the
transaction function are both read off that one decision. -/

/-- One of the two samples of bit i has timed out. -/
def pairTimesOut (samp : Nat → PulseResult) (i : Nat) : Bool :=
  (samp (2 * i)).isTimeout || (samp (2 * i + 1)).isTimeout

/-- The outcome that bit i gives after the i bits before it, if it ends the fold (R406, R413, R414). -/
def bitEnd (lit : Bool) (samp : Nat → PulseResult) (i : Nat) : Option TxnOutcome :=
  if pairTimesOut samp i then
    some ⟨⟨.pulseTimeout, BitVec.ofNat 6 i, !(samp (2 * i)).isTimeout, 0#2⟩, foldedBits samp i⟩
  else if lit && frameOk (foldedBits samp (i + 1)) then
    some ⟨⟨.success, BitVec.ofNat 6 (i + 1), false, 0#2⟩, foldedBits samp (i + 1)⟩
  else if i = 39 then
    some ⟨⟨if frameOk (foldedBits samp (i + 1)) then .success else .checksumMismatch, 40#6, false, 0#2⟩,
      foldedBits samp (i + 1)⟩
  else none

section BitEnd

variable {lit : Bool} {samp : Nat → PulseResult} {i : Nat}

theorem bitEnd_of_timeout (h : pairTimesOut samp i = true) :
    bitEnd lit samp i =
      some ⟨⟨.pulseTimeout, BitVec.ofNat 6 i, !(samp (2 * i)).isTimeout, 0#2⟩, foldedBits samp i⟩ := if_pos h

theorem bitEnd_of_early (h : pairTimesOut samp i = false) (hok : frameOk (foldedBits samp (i + 1)) = true) :
    bitEnd true samp i = some ⟨⟨.success, BitVec.ofNat 6 (i + 1), false, 0#2⟩, foldedBits samp (i + 1)⟩ := by
  simp [bitEnd, h, hok]

/-- Corrected mode checks nothing before bit 39. -/
theorem bitEnd_corrected (h : pairTimesOut samp i = false) (hi : i ≠ 39) : bitEnd false samp i = none := by
  simp [bitEnd, h, hi]

theorem bitEnd_corrected_last (h : pairTimesOut samp 39 = false) :
    bitEnd false samp 39 =
      some ⟨⟨if frameOk (foldedBits samp 40) then .success else .checksumMismatch, 40#6, false, 0#2⟩,
        foldedBits samp 40⟩ := by
  simp [bitEnd, h]

/-- Bit 39 ends the fold, whatever it is. -/
theorem bitEnd_39_ne_none : bitEnd lit samp 39 ≠ none := by
  rw [bitEnd, if_pos (rfl : 39 = 39)]
  split_ifs <;> exact Option.some_ne_none _

/-- A SUCCESS at bit i has checked the frame of i + 1 bits. -/
theorem bitEnd_success {o : TxnOutcome} (h : bitEnd lit samp i = some o) (hs : o.result.kind = .success) :
    frameOk (foldedBits samp (i + 1)) = true ∧ o.result.bits = BitVec.ofNat 6 (i + 1) := by
  unfold bitEnd at h
  split_ifs at h with htimeout hearly hlast <;> cases h
  · cases hs
  · exact ⟨(Bool.and_eq_true_iff.mp hearly).2, rfl⟩
  · next hok => exact ⟨hok, by rw [hlast]⟩
  · cases hs

/-- A bit that does not end the fold hands its frame on. -/
theorem assembleFrom_of_none {left : Nat} (hi : i + (left + 1) = 39) (h : bitEnd lit samp i = none) :
    assembleFrom lit samp (left + 1) (foldedBits samp i) = assembleFrom lit samp left (foldedBits samp (i + 1)) := by
  obtain rfl : i = 39 - (left + 1) := by omega
  rw [assembleFrom]
  simp only [← foldedBits_succ]
  unfold bitEnd pairTimesOut at h
  split_ifs at h with htimeout hearly hlast
  rw [if_neg htimeout, if_neg hearly]

theorem assembleFrom_of_some {left : Nat} {o : TxnOutcome} (hi : i + left = 39) (h : bitEnd lit samp i = some o) :
    assembleFrom lit samp left (foldedBits samp i) = (o, i) := by
  obtain rfl : i = 39 - left := by omega
  rw [assembleFrom.eq_def]
  simp only [← foldedBits_succ]
  unfold bitEnd pairTimesOut at h
  split at h
  case isTrue htimeout => rw [if_pos htimeout, Option.some.inj h]
  rw [if_neg ‹_›]
  split at h
  case isTrue hearly => rw [if_pos hearly, Option.some.inj h]
  rw [if_neg ‹_›]
  split at h
  case isTrue hlast =>
    obtain rfl : left = 0 := by omega
    exact congrArg (·, 39) (Option.some.inj h)
  case isFalse => cases h

/-- The first bit that ends the fold gives its outcome. -/
theorem assembly_of_bitEnd {n : Nat} {o : TxnOutcome} (hn : n ≤ 39) (hnone : ∀ k, k < n → bitEnd lit samp k = none)
    (hsome : bitEnd lit samp n = some o) : assembly lit samp = (o, n) := by
  have hreach (k : Nat) (hk : k ≤ n) : assembly lit samp = assembleFrom lit samp (39 - k) (foldedBits samp k) := by
    induction k with
    | zero => rfl
    | succ k ih =>
      have hleft : 39 - k = 39 - (k + 1) + 1 := by omega
      rw [ih (Nat.le_of_succ_le hk), hleft, assembleFrom_of_none (by omega) (hnone k hk)]
  rw [hreach n (Nat.le_refl n), assembleFrom_of_some (by omega) hsome]

theorem exists_first_bitEnd (lit : Bool) (samp : Nat → PulseResult) :
    ∃ n o, n ≤ 39 ∧ (∀ k, k < n → bitEnd lit samp k = none) ∧ bitEnd lit samp n = some o := by
  have hends : ∃ n, bitEnd lit samp n ≠ none := ⟨39, bitEnd_39_ne_none⟩
  obtain ⟨o, ho⟩ := Option.ne_none_iff_exists'.mp (Nat.find_spec hends)
  exact ⟨Nat.find hends, o, Nat.find_min' hends bitEnd_39_ne_none, fun k hk => not_not.mp (Nat.find_min hends hk), ho⟩

end BitEnd

/-! ## ASSEMBLE, cycle by cycle (R400, R485) -/

/-- SAMP[k] as the result that was stored there (R18). -/
def resultAt (samp : Vector Sample 80) (k : Nat) : PulseResult :=
  if (sampleAt samp k).timedOut then .timeout else .count (sampleAt samp k).cnt

theorem resultAt_isTimeout (samp : Vector Sample 80) (k : Nat) :
    (resultAt samp k).isTimeout = (sampleAt samp k).timedOut := by
  unfold resultAt
  cases (sampleAt samp k).timedOut <;> rfl

theorem resultAt_cnt {samp : Vector Sample 80} {k : Nat} (h : (sampleAt samp k).timedOut = false) :
    (resultAt samp k).cnt = (sampleAt samp k).cnt := by
  rw [resultAt, h]; rfl

theorem pairTimesOut_resultAt (samp : Vector Sample 80) (i : Nat) :
    pairTimesOut (resultAt samp) i =
      ((sampleAt samp (2 * i)).timedOut || (sampleAt samp (2 * i + 1)).timedOut) := by
  rw [pairTimesOut, resultAt_isTimeout, resultAt_isTimeout]

/-- The samples as stored fold in the same bit as the results they stand for. -/
theorem foldedBits_resultAt_succ {samp : Vector Sample 80} {i : Nat}
    (h : ¬ ((sampleAt samp (2 * i)).timedOut || (sampleAt samp (2 * i + 1)).timedOut) = true) :
    foldedBits (resultAt samp) (i + 1) =
      foldBit (foldedBits (resultAt samp) i) (i / 8)
        (classify (sampleAt samp (2 * i)).cnt (sampleAt samp (2 * i + 1)).cnt) := by
  simp only [Bool.or_eq_true, not_or, Bool.not_eq_true] at h
  rw [foldedBits_succ, resultAt_cnt h.1, resultAt_cnt h.2]

section Cycle

variable {s h : State} (hfb : s.fb = foldedBits (resultAt s.samp) s.i.toNat)
include hfb

/-- A bit that ends the fold completes the transaction with its outcome (R406, R413, R414). -/
theorem assembleStep_of_some (hh : h.fb = s.fb) {o : TxnOutcome}
    (hend : bitEnd s.literal (resultAt s.samp) s.i.toNat = some o) :
    assembleStep s h =
      complete o.result.kind o.result.bits o.result.half o.result.hsph s { h with fb := o.frame } := by
  simp only [bitEnd, pairTimesOut_resultAt, resultAt_isTimeout, BitVec.ofNat_add, BitVec.ofNat_toNat,
    BitVec.setWidth_eq] at hend
  simp only [assembleStep, bitLane, hfb]
  split at hend
  case isTrue htimeout =>
    obtain rfl := Option.some.inj hend
    rw [if_pos htimeout, ← hfb, ← hh]
  case isFalse hcounts =>
    rw [if_neg hcounts, ← foldedBits_resultAt_succ hcounts]
    split at hend
    case isTrue hearly =>
      obtain rfl := Option.some.inj hend
      rw [if_pos hearly]
    case isFalse hcheck =>
      split at hend
      case isTrue hlast =>
        obtain rfl := Option.some.inj hend
        rw [if_neg hcheck, if_pos (BitVec.eq_of_toNat_eq hlast)]
      case isFalse => cases hend

/-- Any other bit is folded in, and the next one follows (R410). -/
theorem assembleStep_of_none (hend : bitEnd s.literal (resultAt s.samp) s.i.toNat = none) :
    assembleStep s h = { h with fb := foldedBits (resultAt s.samp) (s.i.toNat + 1), i := s.i + 1#6 } := by
  simp only [bitEnd, pairTimesOut_resultAt] at hend
  split_ifs at hend with hcounts hcheck hlast
  have hne : s.i ≠ 39#6 := fun hi => hlast (congrArg BitVec.toNat hi)
  simp only [assembleStep, bitLane, hfb]
  rw [if_neg hcounts, ← foldedBits_resultAt_succ hcounts, if_neg hcheck, if_neg hne]

end Cycle

/-- The rest of a stretch out of reset, seen from the state that a run within it ends in. -/
theorem OutOfReset.after_run {m n : Nat} {s t : State} (h : OutOfReset s (m + n)) (hrun : run m s = .next t) :
    OutOfReset t n := by
  induction m generalizing s with
  | zero =>
    cases hrun
    rwa [Nat.zero_add] at h
  | succ m ih =>
    rw [run_succ] at hrun
    rw [Nat.succ_add] at h
    exact ih h.tail hrun

/-- A cycle of ASSEMBLE is the unit's step, on a state whose samples, frame, mode and start time are those before it. -/
theorem after_assemble {s : State} (hr : (nextInput s).rstN = true) (hp : s.phase = .assemble) :
    ∃ h, after s = assembleStep (beginCycle s) h ∧ h.phase = .assemble ∧ h.fb = s.fb ∧ h.samp = s.samp ∧
      h.literal = s.literal ∧ h.tstart = s.tstart := by
  obtain ⟨_, _, _, _, _, hstep, -⟩ := step_busy hr (by simp [hp]) (step_after s)
  simp only [unitStep, beginCycle_phase, hp] at hstep
  exact ⟨_, hstep, rfl, rfl, rfl, rfl, rfl⟩

/-- In `s` the block is at bit k of ASSEMBLE, for a transaction with these samples, LITERAL and start time. -/
structure AtBit (samp : Vector Sample 80) (literal : Bool) (tstart : Word) (k : Nat) (s : State) : Prop where
  phase : s.phase = .assemble
  bit : s.i.toNat = k
  fb : s.fb = foldedBits (resultAt samp) k
  samp : s.samp = samp
  literal : s.literal = literal
  tstart : s.tstart = tstart

/-- The block has completed with the outcome `o` a transaction accepted at `tstart` (R420). -/
def CompletedWith (o : TxnOutcome) (tstart : Word) (t : State) : Prop :=
  t.phase = .idle ∧ t.result = o.result ∧ t.fb = o.frame ∧ t.lasttime = tstart ∧ t.haveResult = true ∧ t.done = true

section Bits

variable {samp : Vector Sample 80} {literal : Bool} {tstart : Word} {k : Nat} {s : State}

/-- A bit that does not end the fold takes one cycle, whatever the host does in it. -/
theorem AtBit.after_of_none (hs : AtBit samp literal tstart k s) (hr : (nextInput s).rstN = true) (hk : k ≤ 39)
    (hend : bitEnd literal (resultAt samp) k = none) : AtBit samp literal tstart (k + 1) (after s) := by
  obtain ⟨hp, rfl, hfb, rfl, rfl, rfl⟩ := hs
  obtain ⟨h, hstep, hphase, -, hsamp, hliteral, htstart⟩ := after_assemble hr hp
  rw [hstep, assembleStep_of_none (s := beginCycle s) hfb hend]
  have hnext : (s.i + 1#6).toNat = s.i.toNat + 1 := by simp; omega
  exact ⟨hphase, hnext, rfl, hsamp, hliteral, htstart⟩

theorem AtBit.after_of_some (hs : AtBit samp literal tstart k s) (hr : (nextInput s).rstN = true) {o : TxnOutcome}
    (hend : bitEnd literal (resultAt samp) k = some o) : CompletedWith o tstart (after s) := by
  obtain ⟨hp, rfl, hfb, rfl, rfl, rfl⟩ := hs
  obtain ⟨h, hstep, -, hframe, -⟩ := after_assemble hr hp
  rw [hstep, assembleStep_of_some (s := beginCycle s) hfb hframe hend]
  exact ⟨rfl, rfl, rfl, rfl, rfl, rfl⟩

/-- As long as no bit ends the fold, the block is at bit k + m after m cycles. -/
theorem AtBit.run_of_none (hs : AtBit samp literal tstart k s) {m : Nat} (hm : k + m ≤ 39) (hreset : OutOfReset s m)
    (hnone : ∀ j, j < k + m → bitEnd literal (resultAt samp) j = none) :
    ∃ t, run m s = .next t ∧ AtBit samp literal tstart (k + m) t := by
  induction m generalizing s k with
  | zero => exact ⟨s, rfl, hs⟩
  | succ m ih =>
    have hnext := hs.after_of_none hreset.head (by omega) (hnone k (by omega))
    rw [Nat.add_comm m 1, ← Nat.add_assoc] at hm hnone ⊢
    rw [Nat.add_comm 1 m, run_succ]
    exact ih hnext hm hreset.tail hnone

end Bits

end Sys2Proof.Machine

namespace Sys2Proof.Proofs

open Sys2Proof.Machine

/-- Settles O35: a return to IDLE is a completion (`step_to_idle`), which no access of the cycle can take back. -/
theorem completionUpdatesTheCache : Obligations.CompletionUpdatesTheCache := by
  intro s t hr he hp hidle
  obtain ⟨hcached, htstart⟩ := step_busy_keeps hr he hp
  obtain ⟨kind, bits, half, hsph, g, hkind, rfl⟩ := step_to_idle hr he hp hidle
  exact ⟨hkind, rfl, rfl, rfl, rfl, hcached, htstart, rfl⟩

/-- Settles O36, by whether the step starts in IDLE or stays in a transaction. -/
theorem onlyCompletionChangesTheCache : Obligations.OnlyCompletionChangesTheCache := by
  intro s t hr he hcase
  by_cases hp : s.phase = .idle
  · exact sameCache_step_idle hr he hp
  · exact sameCache_step_busy hr he hp (hcase.resolve_left hp)

/-- Settles O50: the first bit that ends the fold (`exists_first_bitEnd`) is the function's outcome
(`assembly_of_bitEnd`), the block reaches it one bit per cycle, and there it completes. -/
theorem assembleRefinesTheFold : Obligations.AssembleRefinesTheFold := by
  intro s hp hi hfb f
  obtain ⟨n, o, hn, hnone, hsome⟩ := exists_first_bitEnd s.literal (resultAt s.samp)
  have hf : f = (o, n) := assembly_of_bitEnd hn hnone hsome
  have hstart : AtBit s.samp s.literal s.tstart 0 s := ⟨hp, congrArg BitVec.toNat hi, hfb, rfl, rfl, rfl⟩
  have hreach (m : Nat) (hm : m ≤ n) (hreset : OutOfReset s m) :
      ∃ t, run m s = .next t ∧ AtBit s.samp s.literal s.tstart m t := by
    simpa using hstart.run_of_none (by omega) hreset fun j hj => hnone j (by omega)
  rw [hf]
  refine ⟨hn, fun m t hm hreset hrun => ?_, fun hreset => ?_⟩
  · obtain ⟨u, hu, hat⟩ := hreach m hm hreset
    obtain rfl : u = t := Host.Outcome.next.inj (hu.symm.trans hrun)
    exact ⟨hat.phase, hat.bit⟩
  · obtain ⟨u, hu, hat⟩ := hreach n (Nat.le_refl n) fun k hk => hreset k (Nat.lt_succ_of_lt hk)
    exact ⟨after u, run_last n hu, hat.after_of_some (hreset.after_run hu).head hsome⟩

/-- Settles O54: in corrected mode only a timeout ends the fold before bit 39. -/
theorem correctedModeReportsTheFirstTimeout : Obligations.CorrectedModeReportsTheFirstTimeout := by
  intro samp
  have hcounts {n i : Nat} (h : ∀ k, k < 2 * n → (samp k).isTimeout = false) (hi : i < n) :
      pairTimesOut samp i = false := by
    rw [pairTimesOut, h _ (by omega), h _ (by omega)]; rfl
  refine ⟨fun m hm htimeout hbefore => ?timeout, fun hbefore => ?none⟩
  case timeout =>
    rw [assembly_of_bitEnd (by omega) (fun k hk => bitEnd_corrected (hcounts hbefore hk) (by omega))
      (bitEnd_of_timeout htimeout)]
    exact ⟨rfl, rfl, rfl⟩
  case none =>
    have hall {i : Nat} : i < 40 → pairTimesOut samp i = false := hcounts hbefore
    rw [assembly_of_bitEnd (Nat.le_refl 39) (fun k hk => bitEnd_corrected (hall (by omega)) (by omega))
      (bitEnd_corrected_last (hall (by omega)))]
    exact ⟨rfl, rfl, rfl⟩

/-- Settles O55. A first bit 0 leaves the frame zero, whose checksum is right; after a first bit 1 no frame of up to
eight bits has a right checksum (`frameOk_frameOfBits_eq_false`). -/
theorem literalModeAcceptsEarly : Obligations.LiteralModeAcceptsEarly := by
  intro samp hlo hhi
  refine ⟨fun hzero => ?zero, fun hone hsuccess => ?one⟩
  case zero =>
    have hbit : classify (samp 0).cnt (samp 1).cnt = false := by
      rw [classify_eq, decide_eq_false hzero.not_gt]
    have hframe : foldedBits samp 1 = zeroFrame := by
      rw [foldedBits_succ, foldedBits_zero, Nat.mul_zero, hbit]; decide
    have hcounts : pairTimesOut samp 0 = false := by
      rw [pairTimesOut, Nat.mul_zero, hlo, hhi]; rfl
    rw [assembly_of_bitEnd (Nat.zero_le 39) (fun k hk => absurd hk (Nat.not_lt_zero k))
      (bitEnd_of_early hcounts (by rw [hframe]; decide)), hframe]
  case one =>
    obtain ⟨n, o, hn, hnone, hsome⟩ := exists_first_bitEnd true samp
    rw [assembly_of_bitEnd hn hnone hsome] at hsuccess ⊢
    obtain ⟨hok, hbits⟩ := bitEnd_success hsome hsuccess
    have hlate : ¬ n + 1 ≤ 8 := by
      intro hle
      rw [foldedBits_eq_frameOfBits, frameOk_frameOfBits_eq_false _ (Nat.succ_pos n) hle] at hok
      · cases hok
      · rw [classify_eq]
        exact decide_eq_true hone
    rw [hbits, BitVec.toNat_ofNat]
    omega

/-- Settles O56: of the 40 bits each lane takes eight, the latest at the bottom (`getLsbD_frameOfBits`). -/
theorem bytesAreMsbFirst : Obligations.BytesAreMsbFirst := by
  intro samp k m hk hm
  have hfull : bitsInLane 40 k = 8 := by unfold bitsInLane; omega
  have hindex : 8 * k + 8 - 1 - (7 - m) = 8 * k + m := by omega
  simp only [frameAfter_eq_frameOfBits]
  rw [getLsbD_frameOfBits _ _ hk (by omega), hfull, hindex, decide_eq_true (by omega), Bool.true_and, classify_eq]

/-- Settles O26: the RESULT word is `resultWord_toNat`, with the code of the kind written out. -/
theorem completeIsTheCacheUpdate : Obligations.CompleteIsTheCacheUpdate := by
  intro kind bits half hsph s h
  refine ⟨rfl, ?_, rfl, rfl⟩
  rw [resultWord_toNat]
  cases kind <;> rfl

/-- Settles O33: the unit's own branches, with the lane, the bit and the checksum as numbers. -/
theorem assembleEdge : Obligations.AssembleEdge := by
  intro inp s h lo hi hr hp hlo hhi k lane bit fb ok
  have hlo' : sampleAt s.samp (2 * s.i.toNat) = lo := by rw [sampleAt, hlo]; rfl
  have hhi' : sampleAt s.samp (2 * s.i.toNat + 1) = hi := by rw [sampleAt, hhi]; rfl
  have hfb : foldBit s.fb (s.i.extractLsb' 3 3).toNat (classify lo.cnt hi.cnt) = fb := by
    rw [bitLane, classify_eq, foldBit_eq]
    simp only [decide_eq_true_eq]
    rfl
  have hok : frameOk fb = true ↔ ok := by rw [frameOk_eq, decide_eq_true_iff]
  rw [edge_out_of_reset hr, unitStep, hp]
  simp only [assembleStep, hlo', hhi', hfb, Bool.or_eq_true, Bool.and_eq_true, hok]
  cases hlot : lo.timedOut with
  | true => simp
  | false => cases hhit : hi.timedOut <;> simp

/-- Settles O57: a read of DATA0 answers its four frame bytes, each in its lane (`extractLsb'_data0Word`). -/
theorem accessorsReadTheFrame : Obligations.AccessorsReadTheFrame := by
  intro s
  have hlane := extractLsb'_data0Word s.fb
  refine ⟨data0Word s.fb, exec_read rfl s, ?_, ?_⟩
  · exact Prod.ext (hlane 0 (by decide)) (hlane 1 (by decide))
  · exact Prod.ext (hlane 2 (by decide)) (hlane 3 (by decide))

end Sys2Proof.Proofs
end

/-! # The result cache while no transaction runs

Without an acceptance no cycle writes the cache or the frame buffer, and a cached return gives back what the last
completion gave (spec/44_rate_limit_cache.md). -/

section

namespace Sys2Proof.Machine

/-- A transaction starts in SETTLE_PH, START or RELEASE, so an acceptance leaves IDLE (R300). -/
theorem firstPhase_ne_idle (s : State) : firstPhase s ≠ .idle := by
  obtain ⟨hf, -⟩ | ⟨hf, -⟩ | ⟨hf, -⟩ := firstPhase_cases s <;> simp [hf]

/-- A cycle that stays in IDLE accepts no transaction, and in IDLE only the acceptance writes FB (R300, R455). -/
theorem fb_step_idle {s t : State} (hr : (nextInput s).rstN = true) (he : step s = .next t) (hp : s.phase = .idle)
    (hstay : t.phase = .idle) : t.fb = s.fb := by
  obtain ⟨h, rfl, ⟨-, rfl⟩ | ⟨w, -, hexec⟩⟩ := step_idle hr hp he
  · rfl
  · obtain ⟨-, ⟨-, rfl⟩ | ⟨-, rfl⟩⟩ | ⟨-, _, _, _, _, _, _, _, _, _, _, _, _, _, rfl, -⟩ :=
      exec_idle (s := beginCycle s) hp hexec
    · rfl
    · exact absurd hstay (firstPhase_ne_idle (beginCycle s))
    · rfl

/-- A run that never leaves IDLE keeps the cached result: RESULT, LASTTIME, VALID and the frame buffer (R452). -/
theorem run_idle_keeps_cache (n : Nat) {s t : State} (hreset : OutOfReset s n) (hrun : run n s = .next t)
    (hidle : ∀ m u, m ≤ n → run m s = .next u → u.phase = .idle) : SameCache t s ∧ t.fb = s.fb := by
  induction n generalizing s with
  | zero =>
    cases hrun
    exact ⟨⟨rfl, rfl, rfl⟩, rfl⟩
  | succ n ih =>
    rw [run_succ] at hrun
    have hafter (m : Nat) (u : State) (hm : m ≤ n) (hu : run m (after s) = .next u) : u.phase = .idle :=
      hidle (m + 1) u (Nat.succ_le_succ hm) (by rw [run_succ, hu])
    have hp : s.phase = .idle := hidle 0 s (Nat.zero_le _) (run_zero s)
    have hstay : (after s).phase = .idle := hafter 0 _ (Nat.zero_le _) (run_zero _)
    obtain ⟨hresult, hlasttime, hvalid⟩ := sameCache_step_idle hreset.head (step_after s) hp
    have hfb := fb_step_idle hreset.head (step_after s) hp hstay
    obtain ⟨⟨hresult', hlasttime', hvalid'⟩, hfb'⟩ := ih hreset.tail hrun hafter
    exact ⟨⟨hresult'.trans hresult, hlasttime'.trans hlasttime, hvalid'.trans hvalid⟩, hfb'.trans hfb⟩

/-- The line is released in IDLE (R302). -/
theorem pinOe_of_idle {s : State} (hp : s.phase = .idle) : pinOe s = false := by
  rw [← Bool.not_eq_true, pinOe_iff, hp]
  decide

end Sys2Proof.Machine

namespace Sys2Proof.Proofs

open Sys2Proof.Machine

/-- Settles O43: a run within IDLE keeps the cache (`run_idle_keeps_cache`), and RESULT, DATA0 and DATA1 show nothing
but the cached result and the frame buffer. -/
theorem cacheKeptWithoutTransaction : Obligations.CacheKeptWithoutTransaction := by
  intro n s t hreset hrun hidle
  obtain ⟨⟨hresult, hlasttime, hvalid⟩, hfb⟩ := run_idle_keeps_cache n hreset hrun hidle
  have hpin : pinOe t = false := pinOe_of_idle (hidle n t (Nat.le_refl n) hrun)
  exact ⟨hresult, hfb, hlasttime, hvalid, congrArg resultWord hresult, congrArg data0Word hfb, congrArg data1Word hfb,
    hpin⟩

end Sys2Proof.Proofs
end

/-! # The transaction function, tick by tick

TXN reads a whole line (spec/45_transaction_model.md). Here it is run over the line one tick at a time, from stage to
stage: its locality, its bound and its agreement with the block are then each an induction over the ticks. -/

section

namespace Sys2Proof.Machine

/-! ## One tick of a pulse (R361, R483) -/

/-- A pulse of level `v` with `c` ticks counted takes a tick of level `l`: the result, if that resolves it, and how many
ticks the pulse then measured has counted. -/
def pulseTick (B : Nat) (v l : Level) (c : Nat) : Option PulseResult × Nat :=
  if l = v then if c + 1 = B then (some .timeout, 0) else (none, c + 1) else (some (.count (BitVec.ofNat 16 c)), 1)

theorem pulseTick_cases (B : Nat) (v l : Level) (c : Nat) :
    (l = v ∧ c + 1 = B ∧ pulseTick B v l c = (some .timeout, 0)) ∨
    (l = v ∧ c + 1 ≠ B ∧ pulseTick B v l c = (none, c + 1)) ∨
    (l = !v ∧ pulseTick B v l c = (some (.count (BitVec.ofNat 16 c)), 1)) := by
  by_cases hl : l = v
  · by_cases hc : c + 1 = B
    · exact .inl ⟨hl, hc, by rw [pulseTick, if_pos hl, if_pos hc]⟩
    · exact .inr (.inl ⟨hl, hc, by rw [pulseTick, if_pos hl, if_neg hc]⟩)
  · exact .inr (.inr ⟨Bool.eq_not_of_ne hl, by rw [pulseTick, if_neg hl]⟩)

/-- MEASURE takes the same tick, as long as its count is below the budget (R360). -/
theorem pulseTick_eq_measureTick (v l : Level) {b c : Half} (hc : c.toNat < b.toNat) :
    pulseTick b.toNat v l c.toNat = ((measureTick v l b c).1, (measureTick v l b c).2.toNat) := by
  have hnext := toNat_add_one_of_lt hc
  have hlast : c + 1#16 = b ↔ c.toNat + 1 = b.toNat := by rw [← BitVec.toNat_inj, hnext]
  simp only [measureTick, pulseTick, hlast]
  split_ifs
  · rfl
  · rw [hnext]
  · rw [BitVec.ofNat_toNat, BitVec.setWidth_eq]; rfl

/-- The run length of a line that starts with `c` ticks of the expected level. -/
theorem runLength_replicate {B c : Nat} (hc : c ≤ B) (v : Level) (y : List Level) :
    runLength v B (List.replicate c v ++ y) = c + runLength v (B - c) y := by
  rw [runLength_append (fun _ => List.eq_of_mem_replicate) (by rwa [List.length_replicate]), List.length_replicate]

/-- RUN needs a tick to resolve a pulse that is still below the budget. -/
theorem runPulse_undecided {B c : Nat} (hc : c < B) (v : Level) (t0 : Nat) :
    runPulse B v t0 (List.replicate c v) = none := by
  have hlength : runLength v B (List.replicate c v) = c := by
    have h := runLength_replicate hc.le v []
    rw [List.append_nil] at h
    rw [h]
    cases B - c <;> rfl
  simp [runPulse, hlength, hc]

section PulseTick

variable {B c : Nat} {v l : Level}

/-- A tick that leaves the pulse unresolved joins the ticks counted. -/
theorem replicate_of_pulseTick {c' : Nat} (h : pulseTick B v l c = (none, c')) (y : List Level) :
    c' = c + 1 ∧ List.replicate c v ++ l :: y = List.replicate c' v ++ y := by
  obtain ⟨-, -, hm⟩ | ⟨rfl, -, hm⟩ | ⟨-, hm⟩ := pulseTick_cases B v l c <;> cases hm.symm.trans h
  exact ⟨rfl, by rw [List.replicate_succ', List.append_assoc, List.singleton_append]⟩

/-- A tick that resolves the pulse resolves it for RUN. -/
theorem runPulse_of_pulseTick (hc : c < B) {r : PulseResult} {c' : Nat} (h : pulseTick B v l c = (some r, c'))
    (t0 : Nat) (y : List Level) :
    runPulse B v t0 (List.replicate c v ++ l :: y) = some ⟨r, t0 + c, c + 1 - c'⟩ := by
  have hrun := runLength_replicate hc.le v (l :: y)
  obtain ⟨d, hd⟩ := Nat.exists_eq_add_of_lt hc
  have hleft : B - c = d + 1 := by omega
  rw [hleft, runLength] at hrun
  obtain ⟨rfl, hB, hm⟩ | ⟨-, -, hm⟩ | ⟨rfl, hm⟩ := pulseTick_cases B v l c <;> cases hm.symm.trans h
  · subst hB
    obtain rfl : d = 0 := by omega
    rw [if_pos rfl, runLength] at hrun
    simp [runPulse, hrun]
  · rw [if_neg (by simp), Nat.add_zero] at hrun
    simp [runPulse, hrun, hc.not_ge]

/-- The line from the next pulse on: it has counted the tick that ended this one as a COUNT (R361). -/
theorem drop_of_pulseTick {r : PulseResult} {c' : Nat} (h : pulseTick B v l c = (some r, c')) (y : List Level) :
    (List.replicate c v ++ l :: y).drop (c + 1 - c') = List.replicate c' (!v) ++ y := by
  obtain ⟨-, -, hm⟩ | ⟨-, -, hm⟩ | ⟨rfl, hm⟩ := pulseTick_cases B v l c <;> cases hm.symm.trans h
  · rw [Nat.sub_zero, List.drop_append]; simp
  · rw [Nat.add_sub_cancel, List.drop_left' (List.length_replicate ..)]; rfl

theorem pulseTick_lt (hB : 2 ≤ B) (hc : c < B) : (pulseTick B v l c).2 < B := by
  obtain ⟨-, -, hm⟩ | ⟨-, hne, hm⟩ | ⟨-, hm⟩ := pulseTick_cases B v l c <;> rw [hm]
  · exact Nat.zero_lt_of_lt hc
  · exact Nat.lt_of_le_of_ne hc hne
  · exact hB

theorem pulseTick_le (B c : Nat) (v l : Level) : (pulseTick B v l c).2 ≤ c + 1 := by
  obtain ⟨-, -, hm⟩ | ⟨-, -, hm⟩ | ⟨-, hm⟩ := pulseTick_cases B v l c <;> rw [hm] <;> simp

end PulseTick

/-! ## The stages -/

/-- Where a transaction stands after some ticks of the line: waiting for the low, or in a pulse with `c` ticks counted,
one of the two of the acknowledgement or the one after the captured results `done` (R482-R484). -/
inductive Stage where
  | waiting
  | low (c : Nat)
  | high (c : Nat)
  | capture (done : List PulseResult) (c : Nat)

/-- The level of capture pulse j (R370). -/
def levelOf (j : Nat) : Level := decide (j % 2 = 1)

theorem levelOf_succ (j : Nat) : levelOf (j + 1) = !levelOf j := by
  have hodd : (j + 1) % 2 = 1 ↔ ¬ j % 2 = 1 := by omega
  simp only [levelOf, hodd, decide_not]

/-- What ends a capture with these results (R485): the outcome and the number of ASSEMBLE cycles. -/
def captureEnd (lit : Bool) (results : List PulseResult) : TxnOutcome × Nat :=
  let r := assembly lit fun k => results.getD k .timeout
  (r.1, r.2 + 1)

/-- A pulse of the acknowledgement after a tick: a TIMEOUT ends the transaction (R484). -/
def ackTick (hsph : BitVec 2) (stay next : Nat → Stage) : Option PulseResult × Nat → Stage ⊕ TxnOutcome × Nat
  | (none, c) => .inl (stay c)
  | (some .timeout, _) => .inr (handshakeOutcome hsph, 0)
  | (some (.count _), c) => .inl (next c)

/-- A capture pulse after a tick: whatever its result is, the 80th ends the capture (R370, R371). -/
def captureTick (lit : Bool) (done : List PulseResult) : Option PulseResult × Nat → Stage ⊕ TxnOutcome × Nat
  | (none, c) => .inl (.capture done c)
  | (some r, c) => if done.length = 79 then .inr (captureEnd lit (done ++ [r])) else .inl (.capture (done ++ [r]) c)

/-- What tick k makes of a stage: the next stage, or the outcome with the number of ASSEMBLE cycles. -/
def Stage.tick (B L : Nat) (lit : Bool) (k : Nat) : Stage → Level → Stage ⊕ TxnOutcome × Nat
  | .waiting, l =>
    if l = false then .inl (.low 1) else if k + 1 = L then .inr (handshakeOutcome 1#2, 0) else .inl .waiting
  | .low c, l => ackTick 2#2 .low .high (pulseTick B false l c)
  | .high c, l => ackTick 3#2 .high (.capture []) (pulseTick B true l c)
  | .capture done c, l => captureTick lit done (pulseTick B (levelOf done.length) l c)

/-- The end of the transaction on the line `x` from tick k on, if a tick of it decides. -/
def Stage.endOn (B L : Nat) (lit : Bool) : Nat → Stage → List Level → Option TxnEnd
  | _, _, [] => none
  | k, st, l :: x =>
    (st.tick B L lit k l).elim (fun next => next.endOn B L lit (k + 1) x) fun e => some ⟨e.1, k, e.2⟩

theorem Stage.endOn_cons (B L : Nat) (lit : Bool) (k : Nat) (st : Stage) (l : Level) (x : List Level) :
    st.endOn B L lit k (l :: x) =
      (st.tick B L lit k l).elim (fun next => next.endOn B L lit (k + 1) x) fun e => some ⟨e.1, k, e.2⟩ := rfl

/-- What every tick keeps: the pulse is below the budget and has counted no more ticks than there were, and a capture
pulse is one of the 80. -/
def Stage.Ok (B k : Nat) : Stage → Prop
  | .waiting => True
  | .low c | .high c => c < B ∧ c ≤ k
  | .capture done c => c < B ∧ c ≤ k ∧ done.length ≤ 79

theorem Stage.ok_tick {B L : Nat} {lit : Bool} {k : Nat} {st next : Stage} {l : Level} (hB : 2 ≤ B) (h : st.Ok B k)
    (htick : st.tick B L lit k l = .inl next) : next.Ok B (k + 1) := by
  have hpulse {c : Nat} {v : Level} (hc : c < B) (hk : c ≤ k) :
      (pulseTick B v l c).2 < B ∧ (pulseTick B v l c).2 ≤ k + 1 :=
    ⟨pulseTick_lt hB hc, (pulseTick_le B c v l).trans (Nat.succ_le_succ hk)⟩
  cases st with
  | waiting =>
    rw [tick] at htick
    split_ifs at htick <;> cases htick
    · exact ⟨hB, Nat.le_add_left 1 k⟩
    · trivial
  | low c =>
    have hm := hpulse (v := false) h.1 h.2
    rw [tick] at htick
    generalize pulseTick B false l c = m at hm htick
    obtain ⟨_ | _ | _, c'⟩ := m <;> cases htick <;> exact hm
  | high c =>
    have hm := hpulse (v := true) h.1 h.2
    rw [tick] at htick
    generalize pulseTick B true l c = m at hm htick
    obtain ⟨_ | _ | _, c'⟩ := m <;> cases htick
    · exact hm
    · exact ⟨hm.1, hm.2, Nat.zero_le _⟩
  | capture done c =>
    obtain ⟨hc, hk, hdone⟩ := h
    have hm := hpulse (v := levelOf done.length) hc hk
    rw [tick] at htick
    generalize pulseTick B (levelOf done.length) l c = m at hm htick
    obtain ⟨_ | r, c'⟩ := m
    · cases htick
      exact ⟨hm.1, hm.2, hdone⟩
    · rw [captureTick] at htick
      split_ifs at htick with hlast
      cases htick
      exact ⟨hm.1, hm.2, by rw [List.length_append, List.length_singleton]; omega⟩

/-! ## The function resumed at a stage -/

/-- One pulse of the acknowledgement and the `rest` of the transaction after it (R484). -/
def ackPulseThen (B : Nat) (v : Level) (hsph : BitVec 2) (rest : Nat → List Level → Option TxnEnd) (t0 : Nat)
    (x : List Level) : Option TxnEnd :=
  (runPulse B v t0 x).bind fun p =>
    if p.result.isTimeout then some ⟨handshakeOutcome hsph, p.resolved, 0⟩ else rest (t0 + p.length) (x.drop p.length)

/-- The capture from the pulse after the results `done` on, and the assembly (R484, R485). -/
def captureFrom (B : Nat) (lit : Bool) (done : List PulseResult) (t0 : Nat) (x : List Level) : Option TxnEnd :=
  (runPulses B (79 - done.length) (levelOf done.length) t0 x).map fun q =>
    ⟨(captureEnd lit (done ++ q.1)).1, q.2, (captureEnd lit (done ++ q.1)).2⟩

/-- The second pulse of the acknowledgement and what follows it. -/
def highFrom (B : Nat) (lit : Bool) : Nat → List Level → Option TxnEnd :=
  ackPulseThen B true 3#2 (captureFrom B lit [])

theorem txnPulses_eq (B : Nat) (lit : Bool) (t0 : Nat) (x : List Level) :
    txnPulses B lit t0 x = ackPulseThen B false 2#2 (highFrom B lit) t0 x := by
  simp only [txnPulses, highFrom, ackPulseThen]
  cases runPulse B false t0 x with
  | none => rfl
  | some p0 =>
    simp only [Option.bind_some]
    split
    · rfl
    · cases runPulse B true (t0 + p0.length) (x.drop p0.length) with
      | none => rfl
      | some p1 =>
        simp only [Option.bind_some]
        split
        · rfl
        · simp only [captureFrom, List.nil_append]
          change _ = (runPulses B 79 false _ _).map _
          cases runPulses B 79 false (t0 + p0.length + p1.length) ((x.drop p0.length).drop p1.length) <;> rfl

/-- The pulses of a transaction whose wait goes on at tick k. -/
def waitFrom (B L : Nat) (lit : Bool) (k : Nat) (x : List Level) : Option TxnEnd :=
  match ackEdge L k x with
  | .waiting => none
  | .timedOut tick => some ⟨handshakeOutcome 1#2, tick, 0⟩
  | .opened a => txnPulses B lit a (x.drop (a - k))

/-- TXN resumed at a stage: the ticks that the current pulse has counted stand before the line to come. -/
def Stage.resume (B L : Nat) (lit : Bool) (k : Nat) : Stage → List Level → Option TxnEnd
  | .waiting, x => waitFrom B L lit k x
  | .low c, x => ackPulseThen B false 2#2 (highFrom B lit) (k - c) (List.replicate c false ++ x)
  | .high c, x => highFrom B lit (k - c) (List.replicate c true ++ x)
  | .capture done c, x => captureFrom B lit done (k - c) (List.replicate c (levelOf done.length) ++ x)

section Resume

variable {B L : Nat} {lit : Bool} {k c : Nat}

theorem ackPulseThen_undecided (hc : c < B) (v : Level) (hsph : BitVec 2) (rest : Nat → List Level → Option TxnEnd)
    (t0 : Nat) : ackPulseThen B v hsph rest t0 (List.replicate c v) = none := by
  rw [ackPulseThen, runPulse_undecided hc, Option.bind_none]

/-- A tick of an acknowledgement pulse: the function resumed before it is the function resumed after it. -/
theorem ackPulseThen_cons (hc : c < B) (hk : c ≤ k) {v : Level} {hsph : BitVec 2}
    {rest : Nat → List Level → Option TxnEnd} {stay next : Nat → Stage}
    (hstay : ∀ c' x, (stay c').resume B L lit (k + 1) x =
      ackPulseThen B v hsph rest (k + 1 - c') (List.replicate c' v ++ x))
    (hnext : ∀ c' x, (next c').resume B L lit (k + 1) x = rest (k + 1 - c') (List.replicate c' (!v) ++ x))
    (l : Level) (y : List Level) :
    ackPulseThen B v hsph rest (k - c) (List.replicate c v ++ l :: y) =
      (ackTick hsph stay next (pulseTick B v l c)).elim (·.resume B L lit (k + 1) y) fun e => some ⟨e.1, k, e.2⟩ := by
  have hle := pulseTick_le B c v l
  cases hm : pulseTick B v l c with
  | mk r c' =>
    rw [hm] at hle
    cases r with
    | none =>
      obtain ⟨hc', hline⟩ := replicate_of_pulseTick hm y
      rw [hline, ackTick, Sum.elim_inl, hstay, hc', Nat.add_sub_add_right]
    | some r =>
      have hstart : k - c + (c + 1 - c') = k + 1 - c' := by simp only at hle; omega
      rw [ackPulseThen, runPulse_of_pulseTick hc hm, Option.bind_some, drop_of_pulseTick hm, hstart,
        Nat.sub_add_cancel hk]
      cases r with
      | count n => rw [ackTick, Sum.elim_inl, hnext]; rfl
      | timeout => rfl

theorem runPulses_undecided (hc : c < B) (m : Nat) (v : Level) (t0 : Nat) :
    runPulses B m v t0 (List.replicate c v) = none := by
  cases m <;> simp only [runPulses, runPulse_undecided hc, Option.map_none]

/-- A tick of a capture pulse, as for the acknowledgement. -/
theorem captureFrom_cons (hc : c < B) (hk : c ≤ k) {done : List PulseResult} (hdone : done.length ≤ 79) (l : Level)
    (y : List Level) :
    captureFrom B lit done (k - c) (List.replicate c (levelOf done.length) ++ l :: y) =
      (captureTick lit done (pulseTick B (levelOf done.length) l c)).elim (·.resume B L lit (k + 1) y)
        fun e => some ⟨e.1, k, e.2⟩ := by
  have hle := pulseTick_le B c (levelOf done.length) l
  cases hm : pulseTick B (levelOf done.length) l c with
  | mk r c' =>
    rw [hm] at hle
    cases r with
    | none =>
      obtain ⟨hc', hline⟩ := replicate_of_pulseTick hm y
      rw [hline, captureTick, Sum.elim_inl, Stage.resume, hc', Nat.add_sub_add_right]
    | some r =>
      have hstart : k - c + (c + 1 - c') = k + 1 - c' := by simp only at hle; omega
      have hpulse := runPulse_of_pulseTick hc hm (k - c) y
      rw [captureFrom, captureTick]
      split
      · next hlast =>
        rw [hlast, Nat.sub_self, runPulses, ← hlast, hpulse, Nat.sub_add_cancel hk]
        rfl
      · next hmore =>
        obtain ⟨m, hm79⟩ : ∃ m, 79 - done.length = m + 1 := ⟨78 - done.length, by omega⟩
        have hrest : 79 - (done ++ [r]).length = m := by rw [List.length_append, List.length_singleton]; omega
        rw [hm79, runPulses, hpulse]
        simp only [drop_of_pulseTick hm, hstart]
        rw [Sum.elim_inl, Stage.resume, captureFrom, hrest, List.length_append, List.length_singleton, levelOf_succ,
          Option.map_map]
        simp only [Function.comp_def, List.append_assoc, List.singleton_append]

theorem le_of_ackEdge_opened {a : Nat} {x : List Level} (h : ackEdge L k x = .opened a) : k ≤ a := by
  induction x generalizing k with
  | nil => cases h
  | cons l x ih =>
    rw [ackEdge] at h
    split_ifs at h
    · cases h; exact Nat.le_refl _
    · exact Nat.le_of_succ_le (ih h)

/-- A tick of the wait. -/
theorem waitFrom_cons (l : Level) (y : List Level) :
    waitFrom B L lit k (l :: y) =
      (Stage.waiting.tick B L lit k l).elim (·.resume B L lit (k + 1) y) fun e => some ⟨e.1, k, e.2⟩ := by
  rw [waitFrom, ackEdge, Stage.tick]
  split_ifs with hlow hlast
  · subst hlow
    simp only [Nat.sub_self, List.drop_zero, txnPulses_eq]
    rfl
  · rfl
  · rw [Sum.elim_inl, Stage.resume, waitFrom]
    cases hedge : ackEdge L (k + 1) y with
    | waiting => rfl
    | timedOut tick => rfl
    | opened a =>
      have hle := le_of_ackEdge_opened hedge
      obtain ⟨d, rfl⟩ := Nat.exists_eq_add_of_le hle
      have hd : k + 1 + d - k = d + 1 := by omega
      simp only [hd, List.drop_succ_cons, Nat.add_sub_cancel_left]

theorem Stage.resume_nil {st : Stage} (h : st.Ok B k) : st.resume B L lit k [] = none := by
  cases st with
  | waiting => rfl
  | low c => rw [resume, List.append_nil, ackPulseThen_undecided h.1]
  | high c => rw [resume, List.append_nil, highFrom, ackPulseThen_undecided h.1]
  | capture done c => rw [resume, List.append_nil, captureFrom, runPulses_undecided h.1, Option.map_none]

theorem Stage.resume_cons {st : Stage} (h : st.Ok B k) (l : Level) (y : List Level) :
    st.resume B L lit k (l :: y) =
      (st.tick B L lit k l).elim (·.resume B L lit (k + 1) y) fun e => some ⟨e.1, k, e.2⟩ := by
  cases st with
  | waiting => exact waitFrom_cons l y
  | low c => exact ackPulseThen_cons h.1 h.2 (fun _ _ => rfl) (fun _ _ => rfl) l y
  | high c => exact ackPulseThen_cons h.1 h.2 (fun _ _ => rfl) (fun _ _ => rfl) l y
  | capture done c => exact captureFrom_cons h.1 h.2.1 h.2.2 l y

end Resume

/-- TXN is the run from the wait over the ticks of the line. -/
theorem txn_eq_endOn {B : Nat} (hB : 2 ≤ B) (L : Nat) (lit : Bool) (x : List Level) :
    txn B L lit x = Stage.waiting.endOn B L lit 0 x := by
  have hresume (st : Stage) (k : Nat) (hok : st.Ok B k) : st.resume B L lit k x = st.endOn B L lit k x := by
    induction x generalizing st k with
    | nil => exact Stage.resume_nil hok
    | cons l x ih =>
      rw [Stage.resume_cons hok, Stage.endOn_cons]
      cases htick : st.tick B L lit k l with
      | inl next => exact ih next (k + 1) (Stage.ok_tick hB hok htick)
      | inr e => rfl
  exact hresume .waiting 0 trivial

section Line

variable {B L : Nat} {lit : Bool} {k : Nat} {st next : Stage} {l : Level} {x : List Level}

/-! ## The ticks that decide (R489) -/

/-- The ticks up to the deciding one decide, whatever follows them. -/
theorem Stage.endOn_deciding_ticks {e : TxnEnd} (h : st.endOn B L lit k x = some e) :
    ∃ u, u <+: x ∧ k + u.length = e.tick + 1 ∧ ∀ z, st.endOn B L lit k (u ++ z) = some e := by
  induction x generalizing st k with
  | nil => cases h
  | cons l x ih =>
    rw [endOn_cons] at h
    cases htick : st.tick B L lit k l with
    | inl next =>
      rw [htick] at h
      obtain ⟨u, hu, hlength, hall⟩ := ih h
      refine ⟨l :: u, List.cons_prefix_cons.mpr ⟨rfl, hu⟩, ?_, fun z => ?_⟩
      · rw [List.length_cons, ← hlength]; omega
      · rw [List.cons_append, endOn_cons, htick]; exact hall z
    | inr o =>
      rw [htick] at h
      cases h
      exact ⟨[l], by simp, rfl, fun z => by rw [List.singleton_append, endOn_cons, htick]; rfl⟩

/-! ## How many ticks decide (R488) -/

/-- The ticks that a stage has left, if its wait is bounded: those of the wait, and B for each pulse still to be
resolved, less those already counted (R326, R361). -/
def Stage.ticksLeft (B L k : Nat) : Stage → Nat
  | .waiting => (L - k) + 82 * B
  | .low c => 82 * B - c
  | .high c => 81 * B - c
  | .capture done c => (80 - done.length) * B - c

/-- A wait at tick k has not passed its bound. -/
def Stage.Bounded (L k : Nat) : Stage → Prop
  | .waiting => k < L
  | .low _ | .high _ | .capture _ _ => True

theorem Stage.ticksLeft_pos (h : st.Ok B k) (hb : st.Bounded L k) : 0 < st.ticksLeft B L k := by
  cases st with
  | waiting => simp only [Bounded, ticksLeft] at hb ⊢; omega
  | low c => simp only [Ok, ticksLeft] at h ⊢; omega
  | high c => simp only [Ok, ticksLeft] at h ⊢; omega
  | capture done c =>
    obtain ⟨hc, -, hdone⟩ := h
    have hle := Nat.le_mul_of_pos_left B (show 0 < 80 - done.length by omega)
    exact Nat.sub_pos_of_lt (hc.trans_le hle)

/-- A tick of a pulse uses up one of the ticks that it and the `n` pulses after it have left. -/
theorem pulseTick_ticksLeft {c : Nat} (hc : c < B) (v l : Level) (n : Nat) :
    ((pulseTick B v l c).1 = none → (n + 1) * B - (pulseTick B v l c).2 + 1 ≤ (n + 1) * B - c) ∧
    ((pulseTick B v l c).1 ≠ none → n * B - (pulseTick B v l c).2 + 1 ≤ (n + 1) * B - c) := by
  rw [Nat.succ_mul]
  obtain ⟨-, hB, hm⟩ | ⟨-, hB, hm⟩ | ⟨-, hm⟩ := pulseTick_cases B v l c <;> rw [hm] <;> simp <;> omega

/-- A tick that does not end the transaction uses up one of the ticks left. -/
theorem Stage.tick_ticksLeft (hB : 2 ≤ B) (h : st.Ok B k) (hb : st.Bounded L k)
    (htick : st.tick B L lit k l = .inl next) :
    next.Bounded L (k + 1) ∧ next.ticksLeft B L (k + 1) + 1 ≤ st.ticksLeft B L k := by
  cases st with
  | waiting =>
    have hk : k < L := hb
    rw [tick] at htick
    split_ifs at htick <;> cases htick <;> simp only [Bounded, ticksLeft, true_and] <;> omega
  | low c =>
    have hm := pulseTick_ticksLeft h.1 false l 81
    rw [tick] at htick
    generalize pulseTick B false l c = m at hm htick
    obtain ⟨_ | _ | _, c'⟩ := m <;> cases htick
    · exact ⟨trivial, hm.1 rfl⟩
    · exact ⟨trivial, hm.2 nofun⟩
  | high c =>
    have hm := pulseTick_ticksLeft h.1 true l 80
    rw [tick] at htick
    generalize pulseTick B true l c = m at hm htick
    obtain ⟨_ | _ | _, c'⟩ := m <;> cases htick
    · exact ⟨trivial, hm.1 rfl⟩
    · exact ⟨trivial, hm.2 nofun⟩
  | capture done c =>
    obtain ⟨hc, -, hdone⟩ := h
    have hm := pulseTick_ticksLeft hc (levelOf done.length) l (79 - done.length)
    have hleft : 79 - done.length + 1 = 80 - done.length := by omega
    rw [tick] at htick
    generalize pulseTick B (levelOf done.length) l c = m at hm htick
    rw [hleft] at hm
    obtain ⟨_ | r, c'⟩ := m
    · cases htick
      exact ⟨trivial, hm.1 rfl⟩
    · rw [captureTick] at htick
      split_ifs at htick
      cases htick
      rw [ticksLeft, List.length_append, List.length_singleton, Nat.add_sub_add_right 79 1]
      exact ⟨trivial, hm.2 nofun⟩

/-- A line with all the ticks that a bounded stage has left decides. -/
theorem Stage.endOn_of_ticksLeft (hB : 2 ≤ B) (h : st.Ok B k) (hb : st.Bounded L k)
    (hlength : st.ticksLeft B L k ≤ x.length) :
    ∃ e, st.endOn B L lit k x = some e ∧ e.tick < k + st.ticksLeft B L k := by
  induction x generalizing st k with
  | nil => exact absurd ((ticksLeft_pos h hb).trans_le hlength) (Nat.lt_irrefl 0)
  | cons l x ih =>
    rw [endOn_cons]
    cases htick : st.tick B L lit k l with
    | inl next =>
      obtain ⟨hbnext, hless⟩ := tick_ticksLeft hB h hb htick
      rw [List.length_cons] at hlength
      obtain ⟨e, he, hbound⟩ := ih (ok_tick hB h htick) hbnext (by omega)
      exact ⟨e, he, by omega⟩
    | inr e => exact ⟨_, rfl, Nat.lt_add_of_pos_right (ticksLeft_pos h hb)⟩

/-- From a low on 82 pulses of B ticks each decide, with or without a bound on the wait. -/
theorem endOn_of_low {a : Nat} (hB : 2 ≤ B) (hlow : x[a]? = some false) (hlength : a + 82 * B ≤ x.length) :
    ∃ e, Stage.waiting.endOn B L lit k x = some e := by
  induction x generalizing a k with
  | nil => cases hlow
  | cons l x ih =>
    rw [List.length_cons] at hlength
    rw [Stage.endOn_cons, Stage.tick]
    split_ifs with hl hlast
    · obtain ⟨e, he, -⟩ := Stage.endOn_of_ticksLeft (L := L) (lit := lit) (k := k + 1) (st := .low 1) (x := x) hB
        ⟨hB, Nat.le_add_left 1 k⟩ trivial (by rw [Stage.ticksLeft]; omega)
      exact ⟨e, he⟩
    · exact ⟨_, rfl⟩
    · cases a with
      | zero => exact absurd (Option.some.inj hlow) hl
      | succ a => exact ih hlow (by omega)

/-- Without a bound, a wait on a line without a low goes on (R325). -/
theorem endOn_unbounded (hx : ∀ l ∈ x, l = true) : Stage.waiting.endOn B 0 lit k x = none := by
  induction x generalizing k with
  | nil => rfl
  | cons l x ih =>
    obtain ⟨rfl, htail⟩ := List.forall_mem_cons.mp hx
    rw [Stage.endOn_cons, Stage.tick, if_neg (by decide), if_neg (Nat.succ_ne_zero k)]
    exact ih htail

/-! ## The ASSEMBLE cycles (R485) -/

/-- No bit of the assembly ends in a handshake timeout. -/
theorem bitEnd_kind {samp : Nat → PulseResult} {i : Nat} {o : TxnOutcome}
    (h : bitEnd lit samp i = some o) : o.result.kind ≠ .handshakeTimeout := by
  unfold bitEnd at h
  split_ifs at h <;> cases h <;> exact nofun

/-- The assembly takes at most 40 cycles, and its outcome is no handshake timeout. -/
theorem assembly_bound (lit : Bool) (samp : Nat → PulseResult) :
    (assembly lit samp).2 ≤ 39 ∧ (assembly lit samp).1.result.kind ≠ .handshakeTimeout := by
  obtain ⟨n, o, hn, hnone, hsome⟩ := exists_first_bitEnd lit samp
  rw [assembly_of_bitEnd hn hnone hsome]
  exact ⟨hn, bitEnd_kind hsome⟩

/-- The number of ASSEMBLE cycles that goes with an outcome: none with a handshake timeout, and at most 40. -/
def AssembleCycles (o : TxnOutcome) (cycles : Nat) : Prop :=
  cycles ≤ 40 ∧ (o.result.kind = .handshakeTimeout → cycles = 0)

theorem assembleCycles_captureEnd (lit : Bool) (results : List PulseResult) :
    AssembleCycles (captureEnd lit results).1 (captureEnd lit results).2 := by
  obtain ⟨hle, hkind⟩ := assembly_bound lit fun k => results.getD k .timeout
  exact ⟨Nat.succ_le_succ hle, fun h => absurd h hkind⟩

theorem assembleCycles_ackTick {hsph : BitVec 2} {stay next : Nat → Stage} {m : Option PulseResult × Nat}
    {e : TxnOutcome × Nat} (h : ackTick hsph stay next m = .inr e) : AssembleCycles e.1 e.2 := by
  obtain ⟨_ | _ | _, c⟩ := m <;> cases h
  exact ⟨Nat.zero_le _, fun _ => rfl⟩

theorem Stage.assembleCycles_tick {e : TxnOutcome × Nat} (h : st.tick B L lit k l = .inr e) :
    AssembleCycles e.1 e.2 := by
  cases st with
  | waiting =>
    rw [tick] at h
    split_ifs at h
    cases h
    exact ⟨Nat.zero_le _, fun _ => rfl⟩
  | low c => exact assembleCycles_ackTick h
  | high c => exact assembleCycles_ackTick h
  | capture done c =>
    rw [tick] at h
    generalize pulseTick B (levelOf done.length) l c = m at h
    obtain ⟨_ | r, c'⟩ := m
    · cases h
    · rw [captureTick] at h
      split_ifs at h
      cases h
      exact assembleCycles_captureEnd lit _

theorem Stage.assembleCycles_endOn {e : TxnEnd} (h : st.endOn B L lit k x = some e) :
    AssembleCycles e.outcome e.assembleCycles := by
  induction x generalizing st k with
  | nil => cases h
  | cons l x ih =>
    rw [endOn_cons] at h
    cases htick : st.tick B L lit k l with
    | inl next => rw [htick] at h; exact ih h
    | inr o => rw [htick] at h; cases h; exact assembleCycles_tick htick

end Line

end Sys2Proof.Machine

namespace Sys2Proof.Proofs

open Sys2Proof.Machine

/-- Settles O53: TXN is a run over the ticks (`txn_eq_endOn`), and the ticks up to the deciding one decide
(`Stage.endOn_deciding_ticks`). -/
theorem transactionUsesOnlyItsPrefix : Obligations.TransactionUsesOnlyItsPrefix := by
  intro B L lit x e hB he
  rw [txn_eq_endOn hB] at he
  obtain ⟨u, hu, hlength, hall⟩ := Stage.endOn_deciding_ticks he
  rw [Nat.zero_add] at hlength
  refine ⟨by have := hu.length_le; omega, fun y hy => ?_⟩
  rw [← hlength, ← List.prefix_iff_eq_take.mp hu] at hy
  rw [txn_eq_endOn hB, ← List.take_append_drop u.length y, hy]
  exact hall _

/-- Settles O52: a bounded wait has L + 82·B ticks left (`Stage.endOn_of_ticksLeft`), and from a low on 82·B decide. -/
theorem transactionDecides : Obligations.TransactionDecides := by
  intro B L lit x hB
  simp only [txn_eq_endOn hB]
  refine ⟨fun hL hlength => ?_, fun a hlow hlength => endOn_of_low hB hlow hlength, fun hL hx => ?_⟩
  · obtain ⟨e, he, htick⟩ := Stage.endOn_of_ticksLeft (L := L) (lit := lit) (k := 0) (st := .waiting) (x := x) hB
      trivial (Nat.pos_of_ne_zero hL) hlength
    exact ⟨e, he, Nat.zero_add (L + 82 * B) ▸ htick, (Stage.assembleCycles_endOn he).1⟩
  · subst hL
    exact endOn_unbounded hx

end Sys2Proof.Proofs
end

/-! # The cycle rules and the transaction function

Cycle by cycle the block stands at the stage at which TXN stands after the ticks so far, and ends with its outcome
(spec/45_transaction_model.md, R490). -/

section

namespace Sys2Proof.Machine

open Sys2Proof.Proofs

/-! ## The captured results (R484) -/

/-- The first n entries of SAMP as results. -/
def storedResults (samp : Vector Sample 80) (n : Nat) : List PulseResult := (List.range n).map (resultAt samp)

@[simp] theorem length_storedResults (samp : Vector Sample 80) (n : Nat) : (storedResults samp n).length = n := by
  simp [storedResults]

/-- The entry that stores a result reads as that result (R18). -/
theorem resultAt_set_same (samp : Vector Sample 80) {n : Nat} (hn : n < 80) (free : Half) (r : PulseResult) :
    resultAt (samp.setIfInBounds n (sampleOf free r)) n = r := by
  cases r <;> simp [resultAt, sampleAt, sampleOf, hn]

theorem resultAt_set_other (samp : Vector Sample 80) {k n : Nat} (hne : n ≠ k) (x : Sample) :
    resultAt (samp.setIfInBounds n x) k = resultAt samp k := by
  have hsample : sampleAt (samp.setIfInBounds n x) k = sampleAt samp k := by simp [sampleAt, hne]
  rw [resultAt, resultAt, hsample]

theorem storedResults_set (samp : Vector Sample 80) {n : Nat} (hn : n < 80) (free : Half) (r : PulseResult) :
    storedResults (samp.setIfInBounds n (sampleOf free r)) (n + 1) = storedResults samp n ++ [r] := by
  simp only [storedResults, List.range_succ, List.map_append, List.map_singleton, resultAt_set_same samp hn]
  congr 1
  refine List.map_congr_left fun k hk => resultAt_set_other samp ?_ _
  exact (List.mem_range.mp hk).ne'

/-! ## The assembly reads 80 results (R485) -/

theorem foldedBits_congr {f g : Nat → PulseResult} {n : Nat} (h : ∀ k, k < 2 * n → f k = g k) :
    foldedBits f n = foldedBits g n := by
  induction n with
  | zero => rfl
  | succ n ih =>
    rw [foldedBits_succ, foldedBits_succ, ih fun k hk => h k (by omega), h _ (by omega), h _ (by omega)]

theorem bitEnd_congr {lit : Bool} {f g : Nat → PulseResult} (h : ∀ k, k < 80 → f k = g k) {i : Nat} (hi : i ≤ 39) :
    bitEnd lit f i = bitEnd lit g i := by
  have hlo : f (2 * i) = g (2 * i) := h _ (by omega)
  have hpair : pairTimesOut f i = pairTimesOut g i := by rw [pairTimesOut, pairTimesOut, hlo, h _ (by omega)]
  rw [bitEnd, bitEnd, hpair, hlo, foldedBits_congr (n := i) fun k hk => h k (by omega),
    foldedBits_congr (n := i + 1) fun k hk => h k (by omega)]

theorem assembly_congr (lit : Bool) {f g : Nat → PulseResult} (h : ∀ k, k < 80 → f k = g k) :
    assembly lit f = assembly lit g := by
  obtain ⟨n, o, hn, hnone, hsome⟩ := exists_first_bitEnd lit f
  rw [assembly_of_bitEnd hn hnone hsome, assembly_of_bitEnd hn (fun k hk => ?_) ((bitEnd_congr h hn).symm.trans hsome)]
  exact (bitEnd_congr h (by omega)).symm.trans (hnone k hk)

/-- A full SAMP ends the capture as the fold over its entries says. -/
theorem captureEnd_storedResults (lit : Bool) (samp : Vector Sample 80) :
    captureEnd lit (storedResults samp 80) =
      ((assembly lit (resultAt samp)).1, (assembly lit (resultAt samp)).2 + 1) := by
  have hread (k : Nat) (hk : k < 80) : (storedResults samp 80).getD k .timeout = resultAt samp k := by
    simp [storedResults, hk]
  rw [captureEnd, assembly_congr lit hread]

/-! ## The block at a stage -/

/-- In `s`, k ticks on, the block is at a stage of the transaction. Without a bound ACK_WAIT counts no ticks (R325). -/
inductive InStage (k : Nat) (s : State) : Stage → Prop
  | waiting (phase : s.phase = .ackWait) (all : s.sk = s.reldly) (count : s.acklim ≠ 0#16 → s.aw.toNat = k) :
    InStage k s .waiting
  | low (phase : s.phase = .ackLow) : InStage k s (.low s.c.toNat)
  | high (phase : s.phase = .ackHigh) : InStage k s (.high s.c.toNat)
  | capture (phase : s.phase = .capture) : InStage k s (.capture (storedResults s.samp s.j.toNat) s.c.toNat)

/-- The cycle from `s` ends the line with the outcome `e.1`: the block has completed with it, or it begins the ASSEMBLE
whose fold takes `e.2` cycles and gives it (R484, R485). -/
def EndsWith (s : State) (e : TxnOutcome × Nat) (t : State) : Prop :=
  (e.2 = 0 ∧ CompletedWith e.1 s.tstart t) ∨
  (t.phase = .assemble ∧ t.i = 0#6 ∧ t.fb = zeroFrame ∧ t.tstart = s.tstart ∧
    e = ((assembly t.literal (resultAt t.samp)).1, (assembly t.literal (resultAt t.samp)).2 + 1))

/-- A cycle of a transaction is the unit's step, on a state with the registers of the pre-edge state. -/
theorem after_busy {s : State} (hr : (nextInput s).rstN = true) (hp : s.phase ≠ .idle) :
    ∃ h, after s = unitStep (nextInput s) (beginCycle s) h ∧ Agree s h ∧ h.literal = s.literal ∧
      h.tstart = s.tstart := by
  obtain ⟨_, _, _, _, _, hstep, -⟩ := step_busy hr hp (step_after s)
  exact ⟨_, hstep, ⟨rfl, rfl, rfl, rfl, rfl, rfl, rfl, rfl, rfl, rfl, rfl, rfl, rfl, rfl⟩, rfl, rfl⟩

/-- An evaluated tick of ACK_WAIT (R323, R325, R326). -/
theorem ackWaitStep_evaluated {s : State} (htick : tickS s = true) (hall : s.sk = s.reldly) (h : State) :
    ackWaitStep s h =
      if pinS s = false then { h with critQ := true, phase := .ackLow, c := 1#16 }
      else if s.acklim = 0#16 then h
      else if s.aw + 1#16 = s.acklim then complete .handshakeTimeout 0#6 false 1#2 s h
      else { h with aw := s.aw + 1#16 } := by
  rw [ackWaitStep, if_pos htick, if_neg (hall ▸ BitVec.lt_irrefl _), if_neg (not_not_intro hall)]

/-- A handshake timeout completes with the frame that the acceptance zeroed (R417, R484). -/
theorem completedWith_handshake {s h : State} (hfb : h.fb = zeroFrame) (hsph : BitVec 2) :
    CompletedWith (handshakeOutcome hsph) s.tstart (complete .handshakeTimeout 0#6 false hsph s h) :=
  ⟨rfl, rfl, hfb, rfl, rfl, rfl⟩

section InStage

variable {k : Nat} {s : State} {st : Stage}

theorem InStage.phase_cases (h : InStage k s st) : s.phase = .ackWait ∨ inWindow s.phase = true := by
  cases h with
  | waiting hp => exact .inl hp
  | low hp | high hp | capture hp => rw [hp]; exact .inr rfl

theorem InStage.busy (h : InStage k s st) : s.phase ≠ .idle := by
  intro hp
  obtain hw | hw := h.phase_cases <;> simp [hp, inWindow] at hw

/-- At a stage every sample tick is evaluated. -/
theorem InStage.evaluates_eq (h : InStage k s st) : evaluates s = tickS s := by
  cases h with
  | waiting hp hall => simp [evaluates, hp, hall]
  | low hp | high hp | capture hp => simp [evaluates, hp]

/-- Between ticks a stage stays (R324). -/
theorem InStage.after_quiet (h : InStage k s st) (hr : (nextInput s).rstN = true) (he : evaluates s = false) :
    InStage k (after s) st := by
  obtain ⟨g, hstep, hw, -⟩ := after_busy hr h.busy
  have htick : tickS (beginCycle s) = false := h.evaluates_eq.symm.trans he
  have hstay : after s = g := by
    rw [hstep]
    cases h with
    | waiting hp | low hp | high hp | capture hp =>
      simp [unitStep, hp, ackWaitStep, ackLowStep, ackHighStep, captureStep, htick]
  rw [hstay]
  cases h with
  | waiting hp hall hcount =>
    exact .waiting (hw.phase ▸ hp) (hw.sk ▸ hw.reldly ▸ hall) (hw.acklim ▸ hw.aw ▸ hcount)
  | low hp => rw [hw.c]; exact .low (hw.phase ▸ hp)
  | high hp => rw [hw.c]; exact .high (hw.phase ▸ hp)
  | capture hp => rw [hw.c, hw.samp, hw.j]; exact .capture (hw.phase ▸ hp)

/-- A tick of the wait: the low, the bound, or one tick more (R323, R325, R326). -/
theorem ackWaitStep_tick {g : State} (hw : Agree s g) (hs : Legal s) (hfb : g.fb = zeroFrame) (hp : s.phase = .ackWait)
    (hall : s.sk = s.reldly) (hcount : s.acklim ≠ 0#16 → s.aw.toNat = k) (htick : tickS s = true) :
    (Stage.waiting.tick s.budget.toNat s.acklim.toNat s.literal k (pinS s)).elim (InStage (k + 1) (ackWaitStep s g))
      (EndsWith s · (ackWaitStep s g)) := by
  have hwaited := hs.waited hp
  have hg : g.phase = .ackWait := hw.phase.symm.trans hp
  have hallg : g.sk = g.reldly := hw.sk ▸ hw.reldly ▸ hall
  rw [ackWaitStep_evaluated htick hall, Stage.tick]
  by_cases hlow : pinS s = false
  · rw [if_pos hlow, if_pos hlow]
    exact .low (s := { g with critQ := true, phase := .ackLow, c := 1#16 }) rfl
  rw [if_neg hlow, if_neg hlow]
  by_cases hfree : s.acklim = 0#16
  · rw [if_pos hfree, hfree, if_neg (show k + 1 ≠ (0#16).toNat from Nat.succ_ne_zero k)]
    exact .waiting hg hallg fun hbound => absurd (hw.acklim.symm.trans hfree) hbound
  rw [if_neg hfree] at hwaited ⊢
  have hnext : (s.aw + 1#16).toNat = k + 1 := by rw [toNat_add_one_of_lt hwaited, hcount hfree]
  by_cases hlast : s.aw + 1#16 = s.acklim
  · rw [if_pos hlast, if_pos (by rw [← hnext, hlast])]
    exact .inl ⟨rfl, completedWith_handshake hfb 1#2⟩
  · rw [if_neg hlast, if_neg (by rw [← hnext]; exact BitVec.toNat_ne.mp hlast)]
    exact .waiting hg hallg fun _ => hnext

/-- A tick of an acknowledgement pulse (R365, R366). -/
theorem ackPulse_tick {g : State} (hc : s.c.toNat < s.budget.toNat) (hfb : g.fb = zeroFrame) (htick : tickS s = true)
    {v : Level} {hsph : BitVec 2} {stay next : Nat → Stage} {nextState : State → State}
    (hstay : ∀ c, InStage k { g with c := c } (stay c.toNat))
    (hnext : ∀ c, InStage k (nextState { g with c := c }) (next c.toNat)) :
    (ackTick hsph stay next (pulseTick s.budget.toNat v (pinS s) s.c.toNat)).elim
      (InStage k (ackPulse v hsph nextState s g)) (EndsWith s · (ackPulse v hsph nextState s g)) := by
  rw [pulseTick_eq_measureTick _ _ hc, ackPulse, if_pos htick]
  generalize measureTick v (pinS s) s.budget s.c = m
  obtain ⟨_ | n | _, c⟩ := m
  · exact hstay c
  · exact hnext c
  · exact .inl ⟨rfl, completedWith_handshake hfb hsph⟩

/-- A tick of capture pulse j: its result, if it has one now, joins those in SAMP, and after the 80th SAMP is what the
assembly reads (R370, R371). -/
theorem captureStep_tick {g : State} (hw : Agree s g) (hs : Legal s) (hfb : g.fb = zeroFrame) (hp : s.phase = .capture)
    (hlit : g.literal = s.literal) (htstart : g.tstart = s.tstart) (htick : tickS s = true) :
    (captureTick s.literal (storedResults s.samp s.j.toNat)
      (pulseTick s.budget.toNat (captureLevel s) (pinS s) s.c.toNat)).elim (InStage k (captureStep s g))
      (EndsWith s · (captureStep s g)) := by
  have hg : g.phase = .capture := hw.phase.symm.trans hp
  have hj := hs.pulse hp
  rw [pulseTick_eq_measureTick _ _ (hs.count (by rw [hp]; rfl))]
  cases hm : measureTick (captureLevel s) (pinS s) s.budget s.c with
  | mk r c =>
    cases r with
    | none =>
      rw [captureStep_unresolved htick hm, captureTick, Sum.elim_inl, hw.samp, hw.j]
      exact .capture hg
    | some r =>
      have hstored := storedResults_set s.samp (Nat.lt_succ_of_le hj) (Config.timeoutCnt s.cycle) r
      rw [captureStep_stores htick hm, captureTick, length_storedResults, ← hstored]
      by_cases hlast : s.j = 79#7
      · simp only [hlast, BitVec.reduceToNat, Nat.reduceAdd, if_true, Sum.elim_inr,
          captureEnd_storedResults]
        exact .inr ⟨rfl, rfl, hfb, htstart, by rw [hlit]⟩
      · have hne : s.j.toNat ≠ 79 := BitVec.toNat_ne.mp hlast
        have hnext : (s.j + 1#7).toNat = s.j.toNat + 1 :=
          toNat_add_one_of_lt (b := 79#7) (Nat.lt_of_le_of_ne hj hne)
        simp only [if_neg hlast, if_neg hne, Sum.elim_inl]
        rw [← hnext]
        exact .capture hg

/-- At a tick the block does what the tick makes of its stage. -/
theorem InStage.after_tick (h : InStage k s st) (hs : Legal s) (hr : (nextInput s).rstN = true)
    (he : evaluates s = true) :
    (st.tick s.budget.toNat s.acklim.toNat s.literal k (pinS s)).elim (InStage (k + 1) (after s))
      (EndsWith s · (after s)) := by
  obtain ⟨g, hstep, hw, hlit, htstart⟩ := after_busy hr h.busy
  have hs' := legal_beginCycle hs
  have hw' : Agree (beginCycle s) g := { hw with }
  have htick : tickS (beginCycle s) = true := h.evaluates_eq.symm.trans he
  have hfb : g.fb = zeroFrame := hw.fb ▸ hs.frameZero h.busy (by
    intro hp
    obtain hin | hin := h.phase_cases <;> simp [hp, inWindow] at hin)
  rw [hstep]
  cases h with
  | waiting hp hall hcount =>
    simp only [unitStep, beginCycle_phase, hp]
    exact ackWaitStep_tick hw' hs' hfb hp hall hcount htick
  | low hp =>
    simp only [unitStep, beginCycle_phase, hp, ackLowStep_eq_ackPulse]
    exact ackPulse_tick (s := beginCycle s) (hs.count (by rw [hp]; rfl)) hfb htick
      (fun c => .low (s := { g with c := c }) (hw.phase ▸ hp))
      fun c => .high (s := { g with c := c, phase := .ackHigh }) rfl
  | high hp =>
    simp only [unitStep, beginCycle_phase, hp, ackHighStep_eq_ackPulse]
    exact ackPulse_tick (s := beginCycle s) (hs.count (by rw [hp]; rfl)) hfb htick
      (fun c => .high (s := { g with c := c }) (hw.phase ▸ hp))
      fun c => .capture (s := { g with c := c, phase := .capture, j := 0#7 }) rfl
  | capture hp =>
    simp only [unitStep, beginCycle_phase, hp]
    rw [Stage.tick, length_storedResults, levelOf, ← captureLevel_eq]
    exact captureStep_tick hw' hs' hfb hp hlit htstart htick

end InStage

/-! ## Runs of one transaction -/

/-- The transaction of `s` has not ended before cycle n. -/
def BusyFor (s : State) (n : Nat) : Prop := ∀ m u, m < n → run m s = .next u → u.phase ≠ .idle

theorem BusyFor.head {s : State} {n : Nat} (h : BusyFor s (n + 1)) : s.phase ≠ .idle :=
  h 0 s (Nat.succ_pos n) (run_zero s)

theorem BusyFor.tail {s : State} {n : Nat} (h : BusyFor s (n + 1)) : BusyFor (after s) n :=
  fun m u hm hu => h (m + 1) u (Nat.succ_lt_succ hm) (by rw [run_succ, hu])

/-- A run within a transaction leaves the cache alone (R421). -/
theorem run_busy_keeps_cache (n : Nat) {s t : State} (hreset : OutOfReset s n) (hrun : run n s = .next t)
    (hbusy : BusyFor s n) (ht : t.phase ≠ .idle) : SameCache t s := by
  induction n generalizing s with
  | zero =>
    cases hrun
    exact ⟨rfl, rfl, rfl⟩
  | succ n ih =>
    rw [run_succ] at hrun
    have hstay : (after s).phase ≠ .idle := by
      cases n with
      | zero => cases hrun; exact ht
      | succ n => exact hbusy.tail.head
    obtain ⟨hresult, hlasttime, hvalid⟩ := sameCache_step_busy hreset.head (step_after s) hbusy.head hstay
    obtain ⟨hresult', hlasttime', hvalid'⟩ := ih hreset.tail hrun hbusy.tail
    exact ⟨hresult'.trans hresult, hlasttime'.trans hlasttime, hvalid'.trans hvalid⟩

/-- ASSEMBLE from its first bit on, with the results that SAMP stores (R400, R485). -/
theorem assemble_run {t : State} (hp : t.phase = .assemble) (hi : t.i = 0#6) (hfb : t.fb = zeroFrame) :
    let f := assembly t.literal (resultAt t.samp)
    (∀ m u, m ≤ f.2 → OutOfReset t m → run m t = .next u → u.phase = .assemble ∧ u.i.toNat = m) ∧
      (OutOfReset t (f.2 + 1) → ∃ u, run (f.2 + 1) t = .next u ∧ CompletedWith f.1 t.tstart u) :=
  (assembleRefinesTheFold t hp hi hfb).2

/-- m cycles after the end of the line the block has completed, if m is the number of ASSEMBLE cycles, and is in
ASSEMBLE at bit m before (R485). -/
theorem EndsWith.run {s t u : State} {e : TxnOutcome × Nat} (h : EndsWith s e t) {m : Nat} (hreset : OutOfReset t m)
    (hrun : run m t = .next u) (hbusy : BusyFor t m) :
    if m = e.2 then CompletedWith e.1 s.tstart u else m < e.2 ∧ u.phase = .assemble ∧ u.i.toNat = m := by
  obtain ⟨hzero, hdone⟩ | ⟨hp, hi, hfb, htstart, rfl⟩ := h
  · cases m with
    | zero =>
      cases hrun
      rwa [if_pos hzero.symm]
    | succ m => exact absurd hdone.1 hbusy.head
  · obtain ⟨hbefore, hend⟩ := assemble_run hp hi hfb
    generalize assembly t.literal (resultAt t.samp) = f at hbefore hend ⊢
    have hle : m ≤ f.2 + 1 := by
      by_contra hlate
      obtain ⟨u', hu', hdone⟩ := hend fun k hk => hreset k (by omega)
      exact hbusy (f.2 + 1) u' (Nat.lt_of_not_le hlate) hu' hdone.1
    split
    · next hm =>
      obtain rfl : m = f.2 + 1 := hm
      obtain ⟨u', hu', hdone⟩ := hend hreset
      cases hu'.symm.trans hrun
      exact htstart ▸ hdone
    · next hm =>
      have hlt : m < f.2 + 1 := Nat.lt_of_le_of_ne hle hm
      exact ⟨hlt, hbefore m u (Nat.le_of_lt_succ hlt) hreset hrun⟩

/-! ## The block shows the outcome of the function (R486, R490) -/

/-- `ShowsEnd` for a run that starts k ticks after the first evaluated one. -/
def ShowsEndAfter (k : Nat) (s : State) (n : Nat) (e : TxnEnd) (tstart : Word) (t : State) : Prop :=
  ∃ m, m < n ∧ k + (lineOf m s).length = e.tick ∧ k + (lineOf (m + 1) s).length = e.tick + 1 ∧
    if n = m + 1 + e.assembleCycles then CompletedWith e.outcome tstart t
    else n < m + 1 + e.assembleCycles ∧ t.phase = .assemble ∧ t.i.toNat = n - (m + 1)

theorem showsEnd_of_zero {s t : State} {n : Nat} {e : TxnEnd} {tstart : Word} (h : ShowsEndAfter 0 s n e tstart t) :
    ShowsEnd s n e tstart t := by
  simpa only [ShowsEndAfter, ShowsEnd, CompletedWith, Nat.zero_add] using h

/-- What a run shows from the second cycle on, it shows from the first, with the ticks of that cycle. -/
theorem ShowsEndAfter.cons {k k' n : Nat} {s t : State} {e : TxnEnd} {tstart : Word}
    (h : ShowsEndAfter k' (after s) n e tstart t)
    (hline : ∀ m, k + (lineOf (m + 1) s).length = k' + (lineOf m (after s)).length) :
    ShowsEndAfter k s (n + 1) e tstart t := by
  obtain ⟨m, hm, hbefore, hat, hshown⟩ := h
  have hcycle : n + 1 = m + 1 + 1 + e.assembleCycles ↔ n = m + 1 + e.assembleCycles := by omega
  refine ⟨m + 1, Nat.succ_lt_succ hm, (hline m).trans hbefore, (hline (m + 1)).trans hat, ?_⟩
  rw [Nat.add_sub_add_right]
  simp only [hcycle]
  split at hshown
  · next hn => rwa [if_pos hn]
  · next hn => rw [if_neg hn]; exact ⟨by omega, hshown.2⟩

/-- The line decides in the first cycle, and the block shows it in the cycles after. -/
theorem EndsWith.showsEndAfter {k n : Nat} {s t : State} {e : TxnOutcome × Nat} (h : EndsWith s e (after s))
    (he : evaluates s = true) (hreset : OutOfReset (after s) n) (hrun : Machine.run n (after s) = .next t)
    (hbusy : BusyFor (after s) n) : ShowsEndAfter k s (n + 1) ⟨e.1, k, e.2⟩ s.tstart t := by
  have hshown := h.run hreset hrun hbusy
  have hcycle : n + 1 = 0 + 1 + e.2 ↔ n = e.2 := by omega
  refine ⟨0, Nat.succ_pos n, rfl, by rw [lineOf_succ_evaluated 0 he]; rfl, ?_⟩
  simp only [hcycle]
  split at hshown
  · next hn => rwa [if_pos hn]
  · next hn => rw [if_neg hn]; exact ⟨by omega, hshown.2⟩

/-- A run from a stage: without an end of the line the block is before ASSEMBLE, and an end it shows. -/
theorem InStage.run (n : Nat) {k : Nat} {s t : State} {st : Stage} (h : InStage k s st) (hs : Legal s)
    (hreset : OutOfReset s n) (hrun : run n s = .next t) (hbusy : BusyFor s n) :
    (st.endOn s.budget.toNat s.acklim.toNat s.literal k (lineOf n s) = none →
      t.phase = .ackWait ∨ inWindow t.phase = true) ∧
    ∀ e, st.endOn s.budget.toNat s.acklim.toNat s.literal k (lineOf n s) = some e → ShowsEndAfter k s n e s.tstart t := by
  induction n generalizing k s st with
  | zero =>
    cases hrun
    exact ⟨fun _ => h.phase_cases, nofun⟩
  | succ n ih =>
    rw [run_succ] at hrun
    have hr := hreset.head
    have hnext := everyStepKeepsTheStateLegal s _ hs (step_after s)
    obtain ⟨-, htstart⟩ := step_busy_keeps hr (step_after s) h.busy
    obtain ⟨hbudget, -, -, -, -, hacklim, -, hliteral⟩ := configurationIsFixedWhileBusy s _ hr (step_after s) h.busy
    cases he : evaluates s with
    | false =>
      rw [lineOf_succ_skipped n he]
      have hrest := ih (h.after_quiet hr he) hnext hreset.tail hrun hbusy.tail
      rw [hbudget, hacklim, hliteral, htstart] at hrest
      exact hrest.imp id fun hend e hsome => (hend e hsome).cons fun m => by rw [lineOf_succ_skipped m he]
    | true =>
      rw [lineOf_succ_evaluated n he, Stage.endOn_cons]
      have htick := h.after_tick hs hr he
      cases hst : st.tick s.budget.toNat s.acklim.toNat s.literal k (pinS s) with
      | inl next =>
        rw [hst] at htick
        have hrest := ih htick hnext hreset.tail hrun hbusy.tail
        rw [hbudget, hacklim, hliteral, htstart] at hrest
        refine hrest.imp id fun hend e hsome => (hend e hsome).cons fun m => ?_
        rw [lineOf_succ_evaluated m he, List.length_cons, Nat.add_assoc, Nat.add_comm 1]
      | inr e =>
        rw [hst] at htick
        refine ⟨nofun, fun e' he' => ?_⟩
        cases he'
        exact EndsWith.showsEndAfter htick he hreset.tail hrun hbusy.tail

/-! ## From the acceptance to the first evaluated tick (R300, R322, R480) -/

/-- In `s` an accepted transaction has not come to its first evaluated tick, or is just before it. -/
def Starting (s : State) : Prop :=
  s.phase = .settle ∨ s.phase = .start ∨ s.phase = .release ∨ (s.phase = .ackWait ∧ s.aw = 0#16)

theorem Starting.busy {s : State} (h : Starting s) : s.phase ≠ .idle ∧ s.phase ≠ .assemble := by
  obtain hp | hp | hp | ⟨hp, -⟩ := h <;> simp [hp]

/-- As long as RELDLY has ticks to discard, ACK_WAIT neither ends nor counts (R322). -/
theorem ackWaitStep_before_last_discard {s : State} (hmore : s.sk ≠ s.reldly) (h : State) :
    (ackWaitStep s h).phase = h.phase ∧ (ackWaitStep s h).aw = h.aw := by
  unfold ackWaitStep
  split_ifs <;> exact ⟨rfl, rfl⟩

/-- Until RELDLY ticks are discarded no tick is on the line, and `aw` stays 0. -/
theorem Starting.after {s : State} (h : Starting s) (hr : (nextInput s).rstN = true)
    (hfirst : ¬ (s.phase = .ackWait ∧ s.sk = s.reldly)) : evaluates s = false ∧ Starting (after s) := by
  obtain ⟨g, hstep, hw, -⟩ := after_busy hr h.busy.1
  have hrow := phaseStep_busy True hr h.busy.1 (step_after s)
  obtain hp | hp | hp | ⟨hp, haw⟩ := h
  · refine ⟨evaluates_before_ackWait (.inl hp), ?_⟩
    simp only [PhaseStep, hp] at hrow
    obtain ⟨-, -, ht⟩ | ⟨-, ht⟩ := hrow
    · split_ifs at ht
      · exact .inr (.inl ht)
      · exact .inr (.inr (.inl ht))
    · exact .inl ht
  · refine ⟨evaluates_before_ackWait (.inr (.inl hp)), ?_⟩
    simp only [PhaseStep, hp] at hrow
    obtain ⟨-, -, ht⟩ | ⟨-, ht⟩ := hrow
    · exact .inr (.inr (.inl ht))
    · exact .inr (.inl ht)
  · refine ⟨evaluates_before_ackWait (.inr (.inr hp)), ?_⟩
    simp only [unitStep, beginCycle_phase, hp, releaseStep] at hstep
    rw [hstep]
    split
    · exact .inr (.inr (.inr ⟨rfl, rfl⟩))
    · exact .inr (.inr (.inl (hw.phase.symm.trans hp)))
  · have hmore : s.sk ≠ s.reldly := fun hall => hfirst ⟨hp, hall⟩
    refine ⟨by simp [evaluates, hp, hmore], .inr (.inr (.inr ?_))⟩
    obtain ⟨hphase, hcount⟩ := ackWaitStep_before_last_discard (s := beginCycle s) hmore g
    simp only [unitStep, beginCycle_phase, hp] at hstep
    rw [hstep, hphase, hcount]
    exact ⟨hw.phase.symm.trans hp, hw.aw.symm.trans haw⟩

/-- A run from the acceptance on: the phases before the first evaluated tick leave the line to come as it is. -/
theorem Starting.run (n : Nat) {s t : State} (h : Starting s) (hs : Legal s) (hreset : OutOfReset s n)
    (hrun : run n s = .next t) (hbusy : BusyFor s n) :
    (Stage.waiting.endOn s.budget.toNat s.acklim.toNat s.literal 0 (lineOf n s) = none →
      t.phase ≠ .idle ∧ t.phase ≠ .assemble) ∧
    ∀ e, Stage.waiting.endOn s.budget.toNat s.acklim.toNat s.literal 0 (lineOf n s) = some e →
      ShowsEndAfter 0 s n e s.tstart t := by
  induction n generalizing s with
  | zero =>
    cases hrun
    exact ⟨fun _ => h.busy, nofun⟩
  | succ n ih =>
    by_cases hfirst : s.phase = .ackWait ∧ s.sk = s.reldly
    · obtain ⟨hp, hall⟩ := hfirst
      have haw : s.aw = 0#16 := by simpa [Starting, hp] using h
      have hstage : InStage 0 s .waiting := .waiting hp hall fun _ => congrArg BitVec.toNat haw
      refine (hstage.run (n + 1) hs hreset hrun hbusy).imp (fun hnone hline => ?_) id
      obtain ht | ht := hnone hline
      · simp [ht]
      · constructor <;> intro hp <;> simp [hp, inWindow] at ht
    · have hr := hreset.head
      obtain ⟨he, hstart⟩ := h.after hr hfirst
      obtain ⟨-, htstart⟩ := step_busy_keeps hr (step_after s) h.busy.1
      obtain ⟨hbudget, -, -, -, -, hacklim, -, hliteral⟩ := configurationIsFixedWhileBusy s _ hr (step_after s) h.busy.1
      rw [run_succ] at hrun
      rw [lineOf_succ_skipped n he]
      have hrest := ih hstart (everyStepKeepsTheStateLegal s _ hs (step_after s)) hreset.tail hrun hbusy.tail
      rw [hbudget, hacklim, hliteral, htstart] at hrest
      exact hrest.imp id fun hend e hsome => (hend e hsome).cons fun m => by rw [lineOf_succ_skipped m he]

/-- The acceptance: the transaction starts with the configuration as it is, NOWMS as its time, and the cache kept
(R300, R456). -/
theorem step_accepts {s a : State} {w : AccessWord} (hp : s.phase = .idle) (hr : (nextInput s).rstN = true)
    (hw : accessOf (nextInput s) = some w) (hread : decode w = .wrCmdRead) (hlim : limited s = false)
    (he : step s = .next a) :
    Starting a ∧ (a.budget = s.budget ∧ a.acklim = s.acklim ∧ a.literal = s.literal) ∧ a.tstart = s.nowms := by
  obtain ⟨g, rfl, ⟨hnone, -⟩ | ⟨w', hw', hexec⟩⟩ := step_idle hr hp he
  · cases hnone.symm.trans hw
  · cases hw'.symm.trans hw
    obtain ⟨-, ⟨hl, -⟩ | ⟨-, rfl⟩⟩ | ⟨hne, -⟩ := exec_idle (s := beginCycle s) hp hexec
    · cases hl.symm.trans hlim
    · refine ⟨?_, ⟨rfl, rfl, rfl⟩, rfl⟩
      obtain ⟨hf, -⟩ | ⟨hf, -⟩ | ⟨hf, -⟩ := firstPhase_cases (beginCycle s)
      · exact .inl hf
      · exact .inr (.inl hf)
      · exact .inr (.inr (.inl hf))
    · exact absurd hread hne

end Sys2Proof.Machine

namespace Sys2Proof.Proofs

open Sys2Proof.Machine

/-- Settles O51: the block and TXN, run over the ticks (`txn_eq_endOn`), go through the same stages (`InStage.run`). -/
theorem cycleRulesRefineTheFunction : Obligations.CycleRulesRefineTheFunction := by
  intro n s t hs hp hall haw hreset hrun hbusy
  have hstage : InStage 0 s .waiting := .waiting hp hall fun _ => congrArg BitVec.toNat haw
  obtain ⟨hnone, hsome⟩ := hstage.run n hs hreset hrun hbusy
  rw [txn_eq_endOn hs.budget]
  split
  · next hend => exact hnone hend
  · next e hend => exact ⟨(Stage.assembleCycles_endOn hend).2, showsEnd_of_zero (hsome e hend)⟩

/-- Settles O59: an acceptance starts a transaction (`step_accepts`), and no tick before the first evaluated one is on
its line (`Starting.run`). -/
theorem acceptedTransactionRefinesTheFunction : Obligations.AcceptedTransactionRefinesTheFunction := by
  intro n s a t w hs hp hr hw hread hlim he hreset hrun hbusy
  obtain ⟨hstart, ⟨hbudget, hacklim, hliteral⟩, htstart⟩ := step_accepts hp hr hw hread hlim he
  obtain ⟨hnone, hsome⟩ := hstart.run n (everyStepKeepsTheStateLegal s a hs he) hreset hrun hbusy
  rw [hbudget, hacklim, hliteral] at hnone hsome
  rw [txn_eq_endOn hs.budget]
  split
  · next hend =>
    obtain ⟨hidle, hassemble⟩ := hnone hend
    obtain ⟨hresult, hlasttime, -⟩ := run_busy_keeps_cache n hreset hrun hbusy hidle
    obtain ⟨hresult', hlasttime', -⟩ := sameCache_step_idle hr he hp
    exact ⟨hidle, hassemble, hresult.trans hresult', hlasttime.trans hlasttime'⟩
  · next e hend => exact showsEnd_of_zero (htstart ▸ hsome e hend)

end Sys2Proof.Proofs
end

/-! # Misuse flags, reset and the interrupt

Who writes OVR and ILL, what a reset edge leaves, and why no interrupt is pending in a transaction
(spec/60_exceptions.md). -/

section

namespace Sys2Proof.Machine

/-! ## The misuse flags after an access (R505, R506) -/

/-- A locked write stores nothing in the misuse flags, so OVR tells whether it was dropped (R240). -/
theorem lockedWrite_flags {stored s t : State} (he : lockedWrite stored s = .next t) (hovr : stored.ovr = s.ovr)
    (hill : stored.ill = s.ill) : (t.ovr = true ↔ s.ovr = true ∨ s.phase ≠ .idle) ∧ t.ill = s.ill := by
  by_cases hp : s.phase = .idle
  · obtain rfl := Host.Outcome.next.inj ((lockedWrite_idle hp).symm.trans he)
    simp [hp, hovr, hill]
  · obtain rfl := Host.Outcome.next.inj ((lockedWrite_busy hp).symm.trans he)
    simp [hp]

/-- WR_CTRL counts as misuse only where it would change the locked LITERAL (R202). -/
theorem execWrCtrl_flags {literal doneIe : Bool} {s t : State} (he : execWrCtrl literal doneIe s = .next t) :
    (t.ovr = true ↔ s.ovr = true ∨ s.phase ≠ .idle ∧ literal ≠ s.literal) ∧ t.ill = s.ill := by
  obtain rfl := Host.Outcome.next.inj ((execWrCtrl_eq literal doneIe s).symm.trans he)
  by_cases hp : s.phase = .idle <;> simp [hp]

/-- Of the three outcomes of a READ only the dropped one is misuse (R205). -/
theorem readCommand_flags (s : State) :
    ((readCommand s).ovr = true ↔ s.ovr = true ∨ s.phase ≠ .idle) ∧ (readCommand s).ill = s.ill := by
  obtain ⟨hp, hread⟩ | ⟨hp, -, hread⟩ | ⟨hp, -, hread⟩ := readCommand_cases s <;> simp [hread, hp]

/-! ## The reset edge (R512, R560) -/

/-- A reset edge takes every register of R560's table from the reset state. -/
theorem atReset_resetEdge (s h : State) : AtReset (resetEdge s h) := { atReset_reset with }

/-- SAMP, which a reset edge keeps, is behind no register offset (R34, R562). -/
theorem prdata_resetEdge (s h : State) (off : Byte) : prdata (resetEdge s h) off = prdata State.reset off := rfl

/-! ## The transaction (R508, R521) -/

/-- The window opens in a transaction only (R375). -/
theorem Legal.busy_of_critO {s : State} (hs : Legal s) (hcrit : critO s = true) : s.phase ≠ .idle := by
  intro hp
  rw [critO, hs.crit, hp] at hcrit
  exact absurd hcrit (by decide)

end Sys2Proof.Machine

namespace Sys2Proof.Proofs

open Sys2Proof.Machine

/-- Settles O18. WR_CTRL, the READ command and the locked writes set OVR by a test of PHASE; every other operation is one
update of the state, the same in every phase. -/
theorem misuseFlagsAfterAccess : Obligations.MisuseFlagsAfterAccess := by
  intro i s t he
  cases i
  case wrCtrl =>
    obtain ⟨hovr, hill⟩ := execWrCtrl_flags he
    simp [hovr, hill]
  case wrCmdRead =>
    obtain rfl := Host.Outcome.next.inj he
    obtain ⟨hovr, hill⟩ := readCommand_flags s
    simp [hovr, hill]
  case wrBudget | wrSdiv | wrMinint | wrStartlow | wrSettle | wrAcklim | wrReldly =>
    obtain ⟨hovr, hill⟩ := lockedWrite_flags he rfl rfl
    simp [hovr, hill]
  all_goals
    obtain rfl := Host.Outcome.next.inj he
    simp

/-- Settles O22: the cycle ends in a reset edge whatever its access left, and the outputs follow from the registers. -/
theorem resetWinsOverEverything : Obligations.ResetWinsOverEverything := by
  intro s hr
  obtain ⟨h, hstep⟩ := step_reset hr (step_after s)
  refine ⟨after s, step_after s, ?_⟩
  rw [hstep]
  exact ⟨atReset_resetEdge _ h, rfl, rfl, rfl, rfl, prdata_resetEdge _ h⟩

/-- Settles O38: neither a unit nor the free-running registers write a misuse flag. -/
theorem blockNeverTouchesMisuseFlags : Obligations.BlockNeverTouchesMisuseFlags := by
  intro inp s h hr
  rw [edge_out_of_reset hr]
  obtain ⟨-, ⟨hovr, hill, -⟩, -⟩ := unitStep_frame inp s (freeRun inp s h)
  exact ⟨hovr, hill⟩

/-- Settles O42: an open window means a transaction, and in a transaction DONE is 0. -/
theorem noInterruptWhileBusy : Obligations.NoInterruptWhileBusy := by
  intro s hs hbusy
  obtain ⟨hdone, -⟩ := hs.notDone (hbusy.elim id hs.busy_of_critO)
  exact ⟨hdone, by rw [irqO, hdone, Bool.false_and]⟩

end Sys2Proof.Proofs
end

/-! # The sample buffer before a capture

SAMP's old content has no influence: a unit reads an entry only in ASSEMBLE, and by then the pulses of the same
transaction have written all of them (spec/70_reset_and_hazards.md). -/

section

namespace Sys2Proof.Machine

/-! ## Two buffers with the same first entries -/

/-- The first n entries of `x` and `y` are the same. -/
def SameBelow (n : Nat) (x y : Vector Sample 80) : Prop := ∀ k (hk : k < 80), k < n → x[k] = y[k]

theorem SameBelow.refl (n : Nat) (x : Vector Sample 80) : SameBelow n x x := fun _ _ _ => rfl

theorem sameBelow_zero (x y : Vector Sample 80) : SameBelow 0 x y := nofun

theorem SameBelow.mono {m n : Nat} {x y : Vector Sample 80} (h : SameBelow n x y) (hle : m ≤ n) : SameBelow m x y :=
  fun k hk hlt => h k hk (hlt.trans_le hle)

theorem SameBelow.eq {x y : Vector Sample 80} (h : SameBelow 80 x y) : x = y := Vector.ext fun k hk => h k hk hk

/-- Storing the same sample behind the common entries makes one more of them. -/
theorem SameBelow.set {n : Nat} {x y : Vector Sample 80} (h : SameBelow n x y) (v : Sample) :
    SameBelow (n + 1) (x.setIfInBounds n v) (y.setIfInBounds n v) := by
  intro k hk hlt
  rw [Vector.getElem_setIfInBounds, Vector.getElem_setIfInBounds]
  split
  · rfl
  · exact h k hk (by omega)

/-! ## The state with another SAMP -/

/-- The state `s` with `x` in SAMP. -/
def withSamp (x : Vector Sample 80) (s : State) : State := { s with samp := x }

/-- SAMP is behind no register offset and on no port (R34, R50). -/
theorem observe_withSamp (x : Vector Sample 80) (s : State) : observe (withSamp x s) = observe s := rfl

theorem freeRun_withSamp (inp : Input) (x : Vector Sample 80) (s h : State) :
    freeRun inp (withSamp x s) (withSamp x h) = withSamp x (freeRun inp s h) := rfl

theorem resetEdge_withSamp (x : Vector Sample 80) (s h : State) :
    resetEdge (withSamp x s) (withSamp x h) = withSamp x (resetEdge s h) := rfl

theorem lockedWrite_withSamp (x : Vector Sample 80) {stored s h : State} (he : lockedWrite stored s = .next h) :
    lockedWrite (withSamp x stored) (withSamp x s) = .next (withSamp x h) := by
  obtain rfl := Host.Outcome.next.inj he
  simp only [lockedWrite, apply_ite (withSamp x)]
  rfl

theorem readCommand_withSamp (x : Vector Sample 80) (s : State) :
    readCommand (withSamp x s) = withSamp x (readCommand s) := by
  simp only [readCommand, apply_ite (withSamp x)]
  rfl

theorem execWrCtrl_withSamp (x : Vector Sample 80) {literal doneIe : Bool} {s h : State}
    (he : execWrCtrl literal doneIe s = .next h) :
    execWrCtrl literal doneIe (withSamp x s) = .next (withSamp x h) := by
  obtain rfl := Host.Outcome.next.inj he
  simp only [execWrCtrl, apply_ite (withSamp x)]
  rfl

/-- No access reads or writes SAMP (R50). -/
theorem exec_withSamp (x : Vector Sample 80) {i : Instr} {s h : State} (he : exec i s = .next h) :
    exec i (withSamp x s) = .next (withSamp x h) := by
  cases i
  case wrCtrl => exact execWrCtrl_withSamp x he
  case wrCmdRead =>
    obtain rfl := Host.Outcome.next.inj he
    exact congrArg Host.Outcome.next (readCommand_withSamp x s)
  case wrBudget | wrSdiv | wrMinint | wrStartlow | wrSettle | wrAcklim | wrReldly => exact lockedWrite_withSamp x he
  all_goals
    obtain rfl := Host.Outcome.next.inj he
    rfl

/-! ## The units that do not read SAMP -/

section Units

variable (x : Vector Sample 80) (s h : State)

theorem settleStep_withSamp (inp : Input) :
    settleStep inp (withSamp x s) (withSamp x h) = withSamp x (settleStep inp s h) := by
  simp only [settleStep, apply_ite (withSamp x)]
  rfl

theorem startStep_withSamp (inp : Input) :
    startStep inp (withSamp x s) (withSamp x h) = withSamp x (startStep inp s h) := by
  simp only [startStep, apply_ite (withSamp x)]
  rfl

theorem releaseStep_withSamp : releaseStep (withSamp x s) (withSamp x h) = withSamp x (releaseStep s h) := by
  simp only [releaseStep, apply_ite (withSamp x)]
  rfl

theorem ackWaitStep_withSamp : ackWaitStep (withSamp x s) (withSamp x h) = withSamp x (ackWaitStep s h) := by
  simp only [ackWaitStep, apply_ite (withSamp x)]
  rfl

theorem ackPulse_withSamp (v : Level) (hsph : BitVec 2) {next : State → State}
    (hnext : ∀ g, next (withSamp x g) = withSamp x (next g)) :
    ackPulse v hsph next (withSamp x s) (withSamp x h) = withSamp x (ackPulse v hsph next s h) := by
  simp only [ackPulse_eq, apply_ite (withSamp x), ← hnext]
  rfl

theorem ackLowStep_withSamp : ackLowStep (withSamp x s) (withSamp x h) = withSamp x (ackLowStep s h) :=
  ackPulse_withSamp x s h false 2#2 (next := fun g => { g with phase := .ackHigh }) fun _ => rfl

theorem ackHighStep_withSamp : ackHighStep (withSamp x s) (withSamp x h) = withSamp x (ackHighStep s h) :=
  ackPulse_withSamp x s h true 3#2 (next := fun g => { g with phase := .capture, j := 0#7 }) fun _ => rfl

/-- Before CAPTURE no unit reads or writes SAMP (R50). -/
theorem unitStep_withSamp (inp : Input) (hcapture : s.phase ≠ .capture) (hassemble : s.phase ≠ .assemble) :
    unitStep inp (withSamp x s) (withSamp x h) = withSamp x (unitStep inp s h) := by
  have hphase : (withSamp x s).phase = s.phase := rfl
  unfold unitStep
  rw [hphase]
  cases hp : s.phase with
  | idle => rfl
  | settle => exact settleStep_withSamp x s h inp
  | start => exact startStep_withSamp x s h inp
  | release => exact releaseStep_withSamp x s h
  | ackWait => exact ackWaitStep_withSamp x s h
  | ackLow => exact ackLowStep_withSamp x s h
  | ackHigh => exact ackHighStep_withSamp x s h
  | capture => exact absurd hp hcapture
  | assemble => exact absurd hp hassemble

end Units

/-! ## The entries that a transaction has written -/

/-- How many entries of SAMP, from the first on, the transaction has written so far (R370). -/
def samplesStored (s : State) : Nat :=
  match s.phase with
  | .capture => s.j.toNat
  | .assemble => 80
  | _ => 0

theorem samplesStored_capture {s : State} (hp : s.phase = .capture) : samplesStored s = s.j.toNat := by
  simp [samplesStored, hp]

theorem samplesStored_assemble {s : State} (hp : s.phase = .assemble) : samplesStored s = 80 := by
  simp [samplesStored, hp]

theorem samplesStored_of_ne {s : State} (hcapture : s.phase ≠ .capture) (hassemble : s.phase ≠ .assemble) :
    samplesStored s = 0 := by
  unfold samplesStored
  split
  · contradiction
  · contradiction
  · rfl

/-- Where a capture begins, it begins with pulse 0, and ASSEMBLE comes only after a capture (R330). -/
theorem samplesStored_after {s : State} (hr : (nextInput s).rstN = true) (hcapture : s.phase ≠ .capture)
    (hassemble : s.phase ≠ .assemble) : samplesStored (after s) = 0 := by
  have hrow := phaseStep_step hr (step_after s)
  cases hp : s.phase <;> simp only [PhaseStep, hp] at hrow
  case idle =>
    obtain ⟨-, ht⟩ | ⟨-, ht⟩ := hrow
    · split_ifs at ht <;> simp [samplesStored, ht]
    · simp [samplesStored, ht]
  case settle =>
    obtain ⟨-, -, ht⟩ | ⟨-, ht⟩ := hrow
    · split_ifs at ht <;> simp [samplesStored, ht]
    · simp [samplesStored, ht]
  case start => obtain ⟨-, -, ht⟩ | ⟨-, ht⟩ := hrow <;> simp [samplesStored, ht]
  case release => obtain ⟨-, ht⟩ | ⟨-, -, ht⟩ := hrow <;> simp [samplesStored, ht]
  case ackWait => obtain ⟨-, -, ht⟩ | ⟨-, -, -, ht⟩ | ⟨-, ht⟩ := hrow <;> simp [samplesStored, ht]
  case ackLow => obtain ⟨-, ht⟩ | ⟨-, ht⟩ | ⟨-, -, ht⟩ := hrow <;> simp [samplesStored, ht]
  case ackHigh =>
    obtain ⟨-, ht, hj⟩ | ⟨-, ht⟩ | ⟨-, -, ht⟩ := hrow
    · simp [samplesStored, ht, hj]
    · simp [samplesStored, ht]
    · simp [samplesStored, ht]
  case capture => exact absurd hp hcapture
  case assemble => exact absurd hp hassemble

theorem unitStep_capture {inp : Input} {s : State} (hp : s.phase = .capture) (h : State) :
    unitStep inp s h = captureStep s h := by
  rw [unitStep, hp]

/-- A cycle of CAPTURE stores one entry at most, and after pulse 79 all have been written (R370). -/
theorem captureStep_withSamp {x : Vector Sample 80} {s g : State} (hw : Agree s g) (hp : s.phase = .capture)
    (hx : SameBelow s.j.toNat x s.samp) :
    ∃ y, captureStep (withSamp x s) (withSamp x g) = withSamp y (captureStep s g) ∧
      SameBelow (samplesStored (captureStep s g)) y (captureStep s g).samp := by
  have hg : g.phase = .capture := hw.phase.symm.trans hp
  have hstay {t : State} (hphase : t.phase = g.phase) (hj : t.j = g.j) (hsamp : t.samp = g.samp) :
      SameBelow (samplesStored t) x t.samp := by
    rw [samplesStored, hphase, hg, hj, hsamp, ← hw.j, ← hw.samp]
    exact hx
  cases htick : tickS s with
  | false =>
    rw [captureStep_quiet htick, captureStep_quiet (s := withSamp x s) htick]
    exact ⟨x, rfl, hstay rfl rfl rfl⟩
  | true =>
    rcases hm : measureTick (captureLevel s) (pinS s) s.budget s.c with ⟨_ | r, c⟩
    · rw [captureStep_unresolved htick hm, captureStep_unresolved (s := withSamp x s) htick hm]
      exact ⟨x, rfl, hstay rfl rfl rfl⟩
    · rw [captureStep_stores htick hm, captureStep_stores (s := withSamp x s) htick hm]
      refine ⟨x.setIfInBounds s.j.toNat (sampleOf (Config.timeoutCnt s.cycle) r), rfl, (hx.set _).mono ?_⟩
      by_cases hlast : s.j = 79#7
      · simp [samplesStored, hlast]
      · simpa only [samplesStored, if_neg hlast, hg] using toNat_add_one_le s.j

/-! ## The step -/

theorem after_of_step {s t : State} (he : step s = .next t) : after s = t :=
  Host.Outcome.next.inj ((step_after s).symm.trans he)

/-- With another SAMP a step ends in the same edge, after the same access (R50). -/
theorem after_withSamp_eq_edge (s : State) :
    ∃ h, after s = edge (nextInput s) (beginCycle s) h ∧ (s.phase ≠ .idle → Agree s h) ∧
      ∀ x, after (withSamp x s) = edge (nextInput s) (withSamp x (beginCycle s)) (withSamp x h) := by
  obtain ⟨h, hstep, ⟨hnone, rfl⟩ | ⟨w, hw, he⟩⟩ := step_eq s
  · refine ⟨_, after_of_step hstep, fun _ => ?_,
      fun x => after_of_step (step_of_no_access (s := withSamp x s) hnone)⟩
    exact ⟨rfl, rfl, rfl, rfl, rfl, rfl, rfl, rfl, rfl, rfl, rfl, rfl, rfl, rfl⟩
  · refine ⟨h, after_of_step hstep, fun hp => ?_,
      fun x => after_of_step (step_of_access (s := withSamp x s) hw (exec_withSamp x he))⟩
    obtain ⟨_, _, _, _, _, rfl, -⟩ := exec_busy (s := beginCycle s) hp he
    exact ⟨rfl, rfl, rfl, rfl, rfl, rfl, rfl, rfl, rfl, rfl, rfl, rfl, rfl, rfl⟩

/-- A step keeps two states apart in no more than the entries of SAMP that the transaction has not written. -/
theorem after_withSamp {x : Vector Sample 80} {s : State} (hx : SameBelow (samplesStored s) x s.samp) :
    ∃ y, after (withSamp x s) = withSamp y (after s) ∧ SameBelow (samplesStored (after s)) y (after s).samp := by
  obtain ⟨h, hafter, hagree, htwin⟩ := after_withSamp_eq_edge s
  cases hr : (nextInput s).rstN with
  | false =>
    rw [hafter, htwin, edge_in_reset hr, edge_in_reset hr]
    exact ⟨x, resetEdge_withSamp x _ _, sameBelow_zero _ _⟩
  | true =>
    by_cases hcapture : s.phase = .capture
    · have hw : Agree (beginCycle s) (freeRun (nextInput s) (beginCycle s) h) := { hagree (by simp [hcapture]) with }
      rw [hafter, htwin, edge_out_of_reset hr, edge_out_of_reset hr, freeRun_withSamp,
        unitStep_capture (s := beginCycle s) hcapture, unitStep_capture (s := withSamp x (beginCycle s)) hcapture]
      exact captureStep_withSamp hw hcapture (samplesStored_capture hcapture ▸ hx)
    · by_cases hassemble : s.phase = .assemble
      · have hall : x = s.samp := (samplesStored_assemble hassemble ▸ hx).eq
        exact ⟨(after s).samp, by rw [hall]; rfl, .refl _ _⟩
      · refine ⟨x, ?_, samplesStored_after hr hcapture hassemble ▸ sameBelow_zero _ _⟩
        rw [hafter, htwin, edge_out_of_reset hr, edge_out_of_reset hr, freeRun_withSamp]
        exact unitStep_withSamp x _ _ _ hcapture hassemble

/-- The same for a run: at its end the states still differ in SAMP alone. -/
theorem run_withSamp (n : Nat) {x : Vector Sample 80} {s : State} (hx : SameBelow (samplesStored s) x s.samp) :
    ∃ t y, run n s = .next t ∧ run n (withSamp x s) = .next (withSamp y t) := by
  induction n generalizing x s with
  | zero => exact ⟨s, x, rfl, rfl⟩
  | succ n ih =>
    obtain ⟨y, hafter, hy⟩ := after_withSamp hx
    rw [run_succ, run_succ, hafter]
    exact ih hy

end Sys2Proof.Machine

namespace Sys2Proof.Proofs

open Sys2Proof.Machine

/-- Settles O48: outside CAPTURE and ASSEMBLE the transaction has written no entry yet, so that two states which differ
in SAMP alone still do so at the end of a run (`run_withSamp`), and SAMP is not observed. -/
theorem oldSamplesAreUnobservable : Obligations.OldSamplesAreUnobservable := by
  intro n s samp hcapture hassemble
  have hnone := samplesStored_of_ne hcapture hassemble
  obtain ⟨t, y, hrun, htwin⟩ := run_withSamp n (hnone ▸ sameBelow_zero samp s.samp)
  exact ⟨t, withSamp y t, hrun, htwin, (observe_withSamp y t).symm⟩

/-- Settles O40: a reset edge leaves the reset state as it is, and whatever it leaves is legal. -/
theorem resetStateIsLegal : Obligations.ResetStateIsLegal := legal_resetEdge State.reset State.reset

end Sys2Proof.Proofs
end
